-- ==== Sys2Proof/Word.lean ====
section
/-! DEFINITION. The two word types of the machine: a byte is 8 bits, a word is 16 bits (R8). -/

namespace Sys2Proof

/-- A byte, 8 bits (R8). -/
abbrev Byte := BitVec 8

/-- A word, 16 bits (R8); also an address (R60). -/
abbrev Word := BitVec 16

end Sys2Proof
end

