-- ==== Sys2Proof/Machine/Bits.lean ====
section
/-! DEFINITION. The halves of a word, sign extension and the I/O-page address (R9, R10, R95). -/

namespace Sys2Proof

/-- `hi(w) = w[15:8]` (R10). -/
def hi (w : Word) : Byte := w.extractLsb' 8 8

/-- `lo(w) = w[7:0]` (R10). -/
def lo (w : Word) : Byte := w.extractLsb' 0 8

/-- `(h : l)`, the word `h * 256 + l` (R10). -/
def word (h l : Byte) : Word := h ++ l

/-- `sext_16(v)`: `v` when `v[7] = 0`, else `v - 256`, as a signed integer (R10). -/
def sext16 (v : Byte) : Int := if v.toNat < 128 then (v.toNat : Int) else (v.toNat : Int) - 256

/-- `0xFF00 + offset`, the I/O-page address of an 8-bit offset (R95). -/
def ioAddr (offset : Byte) : Word := word 0xFF offset

/-- Bit `n` of a byte, `v[n]` (R8). -/
def bitOf (v : Byte) (n : Fin 8) : Bool := v.getLsbD n.val

/-- The two bytes of a word in little-endian order, as an instruction holds `imm16` (R95). -/
def bytesLE (w : Word) : List Byte := [lo w, hi w]

end Sys2Proof
end

