-- ==== Sys2Proof/Decode.lean ====
section
/-! DEFINITION. The opcode maps (R98, R99), the decoder (R90 to R95), the rows of spec/opcode_table.json with the descriptors
(R93, R104), and the encoder, written from the table's own opcode column. -/

namespace Sys2Proof

/-! ### The instruction of each operand combination

Each function names the row of the table whose mnemonic has the given operands. -/

/-- `LD r8[y],r8[z]`, both registers (R121). -/
def Instr.ldRegReg : Reg8 → Reg8 → Instr
  | .b, .b => .ld_b_b | .b, .c => .ld_b_c | .b, .d => .ld_b_d | .b, .e => .ld_b_e | .b, .h => .ld_b_h
  | .b, .l => .ld_b_l | .b, .a => .ld_b_a | .c, .b => .ld_c_b | .c, .c => .ld_c_c | .c, .d => .ld_c_d
  | .c, .e => .ld_c_e | .c, .h => .ld_c_h | .c, .l => .ld_c_l | .c, .a => .ld_c_a | .d, .b => .ld_d_b
  | .d, .c => .ld_d_c | .d, .d => .ld_d_d | .d, .e => .ld_d_e | .d, .h => .ld_d_h | .d, .l => .ld_d_l
  | .d, .a => .ld_d_a | .e, .b => .ld_e_b | .e, .c => .ld_e_c | .e, .d => .ld_e_d | .e, .e => .ld_e_e
  | .e, .h => .ld_e_h | .e, .l => .ld_e_l | .e, .a => .ld_e_a | .h, .b => .ld_h_b | .h, .c => .ld_h_c
  | .h, .d => .ld_h_d | .h, .e => .ld_h_e | .h, .h => .ld_h_h | .h, .l => .ld_h_l | .h, .a => .ld_h_a
  | .l, .b => .ld_l_b | .l, .c => .ld_l_c | .l, .d => .ld_l_d | .l, .e => .ld_l_e | .l, .h => .ld_l_h
  | .l, .l => .ld_l_l | .l, .a => .ld_l_a | .a, .b => .ld_a_b | .a, .c => .ld_a_c | .a, .d => .ld_a_d
  | .a, .e => .ld_a_e | .a, .h => .ld_a_h | .a, .l => .ld_a_l | .a, .a => .ld_a_a

/-- `LD r8[y],d8` (R122). -/
def Instr.ldRegImm : Reg8 → Byte → Instr
  | .b, n => .ld_b_d8 n | .c, n => .ld_c_d8 n | .d, n => .ld_d_d8 n | .e, n => .ld_e_d8 n | .h, n => .ld_h_d8 n
  | .l, n => .ld_l_d8 n | .a, n => .ld_a_d8 n

/-- `LD rp[p],d16` (R123). -/
def Instr.ldPairImm : Pair → Word → Instr
  | .bc, w => .ld_bc_d16 w | .de, w => .ld_de_d16 w | .hl, w => .ld_hl_d16 w | .sp, w => .ld_sp_d16 w

/-- `LD r8[y],(HL)` (R124). -/
def Instr.ldRegAtHL : Reg8 → Instr
  | .b => .ld_b_atHL | .c => .ld_c_atHL | .d => .ld_d_atHL | .e => .ld_e_atHL | .h => .ld_h_atHL | .l => .ld_l_atHL
  | .a => .ld_a_atHL

/-- `LD (HL),r8[z]` (R125). -/
def Instr.ldAtHLReg : Reg8 → Instr
  | .b => .ld_atHL_b | .c => .ld_atHL_c | .d => .ld_atHL_d | .e => .ld_atHL_e | .h => .ld_atHL_h | .l => .ld_atHL_l
  | .a => .ld_atHL_a

/-- `INC r8[y]` and `INC (HL)` (R161, R163). -/
def Instr.incOpd : Opd8 → Instr
  | .reg .b => .inc_b | .reg .c => .inc_c | .reg .d => .inc_d | .reg .e => .inc_e | .reg .h => .inc_h
  | .reg .l => .inc_l | .atHL => .inc_atHL | .reg .a => .inc_a

/-- `DEC r8[y]` and `DEC (HL)` (R162, R164). -/
def Instr.decOpd : Opd8 → Instr
  | .reg .b => .dec_b | .reg .c => .dec_c | .reg .d => .dec_d | .reg .e => .dec_e | .reg .h => .dec_h
  | .reg .l => .dec_l | .atHL => .dec_atHL | .reg .a => .dec_a

/-- `INC rp[p]` (R165). -/
def Instr.incPair : Pair → Instr
  | .bc => .inc_bc | .de => .inc_de | .hl => .inc_hl | .sp => .inc_sp

/-- `DEC rp[p]` (R166). -/
def Instr.decPair : Pair → Instr
  | .bc => .dec_bc | .de => .dec_de | .hl => .dec_hl | .sp => .dec_sp

/-- `PUSH rp2[p]` (R202). -/
def Instr.push : Pair2 → Instr
  | .bc => .push_bc | .de => .push_de | .hl => .push_hl | .af => .push_af

/-- `POP rp2[p]` (R203). -/
def Instr.pop : Pair2 → Instr
  | .bc => .pop_bc | .de => .pop_de | .hl => .pop_hl | .af => .pop_af

/-- `RST y*8` (R186). -/
def Instr.rst : Fin 8 → Instr
  | 0 => .rst_00h | 1 => .rst_08h | 2 => .rst_10h | 3 => .rst_18h | 4 => .rst_20h | 5 => .rst_28h | 6 => .rst_30h
  | _ => .rst_38h

/-- `alu[y] A,r8[z]` and `alu[y] A,d8` (R230). -/
def Instr.alu : AluOp → AluSrc → Instr
  | .add, .opd (.reg .b) => .add_a_b | .add, .opd (.reg .c) => .add_a_c | .add, .opd (.reg .d) => .add_a_d
  | .add, .opd (.reg .e) => .add_a_e | .add, .opd (.reg .h) => .add_a_h | .add, .opd (.reg .l) => .add_a_l
  | .add, .opd .atHL => .add_a_atHL | .add, .opd (.reg .a) => .add_a_a | .adc, .opd (.reg .b) => .adc_a_b
  | .adc, .opd (.reg .c) => .adc_a_c | .adc, .opd (.reg .d) => .adc_a_d | .adc, .opd (.reg .e) => .adc_a_e
  | .adc, .opd (.reg .h) => .adc_a_h | .adc, .opd (.reg .l) => .adc_a_l | .adc, .opd .atHL => .adc_a_atHL
  | .adc, .opd (.reg .a) => .adc_a_a | .sub, .opd (.reg .b) => .sub_a_b | .sub, .opd (.reg .c) => .sub_a_c
  | .sub, .opd (.reg .d) => .sub_a_d | .sub, .opd (.reg .e) => .sub_a_e | .sub, .opd (.reg .h) => .sub_a_h
  | .sub, .opd (.reg .l) => .sub_a_l | .sub, .opd .atHL => .sub_a_atHL | .sub, .opd (.reg .a) => .sub_a_a
  | .sbc, .opd (.reg .b) => .sbc_a_b | .sbc, .opd (.reg .c) => .sbc_a_c | .sbc, .opd (.reg .d) => .sbc_a_d
  | .sbc, .opd (.reg .e) => .sbc_a_e | .sbc, .opd (.reg .h) => .sbc_a_h | .sbc, .opd (.reg .l) => .sbc_a_l
  | .sbc, .opd .atHL => .sbc_a_atHL | .sbc, .opd (.reg .a) => .sbc_a_a | .and, .opd (.reg .b) => .and_a_b
  | .and, .opd (.reg .c) => .and_a_c | .and, .opd (.reg .d) => .and_a_d | .and, .opd (.reg .e) => .and_a_e
  | .and, .opd (.reg .h) => .and_a_h | .and, .opd (.reg .l) => .and_a_l | .and, .opd .atHL => .and_a_atHL
  | .and, .opd (.reg .a) => .and_a_a | .xor, .opd (.reg .b) => .xor_a_b | .xor, .opd (.reg .c) => .xor_a_c
  | .xor, .opd (.reg .d) => .xor_a_d | .xor, .opd (.reg .e) => .xor_a_e | .xor, .opd (.reg .h) => .xor_a_h
  | .xor, .opd (.reg .l) => .xor_a_l | .xor, .opd .atHL => .xor_a_atHL | .xor, .opd (.reg .a) => .xor_a_a
  | .or, .opd (.reg .b) => .or_a_b | .or, .opd (.reg .c) => .or_a_c | .or, .opd (.reg .d) => .or_a_d
  | .or, .opd (.reg .e) => .or_a_e | .or, .opd (.reg .h) => .or_a_h | .or, .opd (.reg .l) => .or_a_l
  | .or, .opd .atHL => .or_a_atHL | .or, .opd (.reg .a) => .or_a_a | .cp, .opd (.reg .b) => .cp_a_b
  | .cp, .opd (.reg .c) => .cp_a_c | .cp, .opd (.reg .d) => .cp_a_d | .cp, .opd (.reg .e) => .cp_a_e
  | .cp, .opd (.reg .h) => .cp_a_h | .cp, .opd (.reg .l) => .cp_a_l | .cp, .opd .atHL => .cp_a_atHL
  | .cp, .opd (.reg .a) => .cp_a_a | .add, .imm n => .add_a_d8 n | .adc, .imm n => .adc_a_d8 n
  | .sub, .imm n => .sub_a_d8 n | .sbc, .imm n => .sbc_a_d8 n | .and, .imm n => .and_a_d8 n
  | .xor, .imm n => .xor_a_d8 n | .or, .imm n => .or_a_d8 n | .cp, .imm n => .cp_a_d8 n

/-- `ADD HL,rp[p]` (R268). -/
def Instr.addHLPair : Pair → Instr
  | .bc => .add_hl_bc | .de => .add_hl_de | .hl => .add_hl_hl | .sp => .add_hl_sp

/-- `JR cc,e8` (R272). -/
def Instr.jrCond : Cond → Byte → Instr
  | .nz, x => .jr_nz_e8 x | .z, x => .jr_z_e8 x | .nc, x => .jr_nc_e8 x | .c, x => .jr_c_e8 x

/-- `JP cc,a16` (R273). -/
def Instr.jpCond : Cond → Word → Instr
  | .nz, w => .jp_nz_a16 w | .z, w => .jp_z_a16 w | .nc, w => .jp_nc_a16 w | .c, w => .jp_c_a16 w

/-- `CALL cc,a16` (R274). -/
def Instr.callCond : Cond → Word → Instr
  | .nz, w => .call_nz_a16 w | .z, w => .call_z_a16 w | .nc, w => .call_nc_a16 w | .c, w => .call_c_a16 w

/-- `RET cc` (R275). -/
def Instr.retCond : Cond → Instr
  | .nz => .ret_nz | .z => .ret_z | .nc => .ret_nc | .c => .ret_c

/-- `rot[y] r8[z]` (R99, R301 to R308). -/
def Instr.rot : RotOp → Opd8 → Instr
  | .rlc, .reg .b => .rlc_b | .rlc, .reg .c => .rlc_c | .rlc, .reg .d => .rlc_d | .rlc, .reg .e => .rlc_e
  | .rlc, .reg .h => .rlc_h | .rlc, .reg .l => .rlc_l | .rlc, .atHL => .rlc_atHL | .rlc, .reg .a => .rlc_a
  | .rrc, .reg .b => .rrc_b | .rrc, .reg .c => .rrc_c | .rrc, .reg .d => .rrc_d | .rrc, .reg .e => .rrc_e
  | .rrc, .reg .h => .rrc_h | .rrc, .reg .l => .rrc_l | .rrc, .atHL => .rrc_atHL | .rrc, .reg .a => .rrc_a
  | .rl, .reg .b => .rl_b | .rl, .reg .c => .rl_c | .rl, .reg .d => .rl_d | .rl, .reg .e => .rl_e
  | .rl, .reg .h => .rl_h | .rl, .reg .l => .rl_l | .rl, .atHL => .rl_atHL | .rl, .reg .a => .rl_a
  | .rr, .reg .b => .rr_b | .rr, .reg .c => .rr_c | .rr, .reg .d => .rr_d | .rr, .reg .e => .rr_e
  | .rr, .reg .h => .rr_h | .rr, .reg .l => .rr_l | .rr, .atHL => .rr_atHL | .rr, .reg .a => .rr_a
  | .sla, .reg .b => .sla_b | .sla, .reg .c => .sla_c | .sla, .reg .d => .sla_d | .sla, .reg .e => .sla_e
  | .sla, .reg .h => .sla_h | .sla, .reg .l => .sla_l | .sla, .atHL => .sla_atHL | .sla, .reg .a => .sla_a
  | .sra, .reg .b => .sra_b | .sra, .reg .c => .sra_c | .sra, .reg .d => .sra_d | .sra, .reg .e => .sra_e
  | .sra, .reg .h => .sra_h | .sra, .reg .l => .sra_l | .sra, .atHL => .sra_atHL | .sra, .reg .a => .sra_a
  | .swap, .reg .b => .swap_b | .swap, .reg .c => .swap_c | .swap, .reg .d => .swap_d | .swap, .reg .e => .swap_e
  | .swap, .reg .h => .swap_h | .swap, .reg .l => .swap_l | .swap, .atHL => .swap_atHL | .swap, .reg .a => .swap_a
  | .srl, .reg .b => .srl_b | .srl, .reg .c => .srl_c | .srl, .reg .d => .srl_d | .srl, .reg .e => .srl_e
  | .srl, .reg .h => .srl_h | .srl, .reg .l => .srl_l | .srl, .atHL => .srl_atHL | .srl, .reg .a => .srl_a

/-- `BIT y,r8[z]` (R309). -/
def Instr.bit : Fin 8 → Opd8 → Instr
  | 0, .reg .b => .bit_0_b | 0, .reg .c => .bit_0_c | 0, .reg .d => .bit_0_d | 0, .reg .e => .bit_0_e
  | 0, .reg .h => .bit_0_h | 0, .reg .l => .bit_0_l | 0, .atHL => .bit_0_atHL | 0, .reg .a => .bit_0_a
  | 1, .reg .b => .bit_1_b | 1, .reg .c => .bit_1_c | 1, .reg .d => .bit_1_d | 1, .reg .e => .bit_1_e
  | 1, .reg .h => .bit_1_h | 1, .reg .l => .bit_1_l | 1, .atHL => .bit_1_atHL | 1, .reg .a => .bit_1_a
  | 2, .reg .b => .bit_2_b | 2, .reg .c => .bit_2_c | 2, .reg .d => .bit_2_d | 2, .reg .e => .bit_2_e
  | 2, .reg .h => .bit_2_h | 2, .reg .l => .bit_2_l | 2, .atHL => .bit_2_atHL | 2, .reg .a => .bit_2_a
  | 3, .reg .b => .bit_3_b | 3, .reg .c => .bit_3_c | 3, .reg .d => .bit_3_d | 3, .reg .e => .bit_3_e
  | 3, .reg .h => .bit_3_h | 3, .reg .l => .bit_3_l | 3, .atHL => .bit_3_atHL | 3, .reg .a => .bit_3_a
  | 4, .reg .b => .bit_4_b | 4, .reg .c => .bit_4_c | 4, .reg .d => .bit_4_d | 4, .reg .e => .bit_4_e
  | 4, .reg .h => .bit_4_h | 4, .reg .l => .bit_4_l | 4, .atHL => .bit_4_atHL | 4, .reg .a => .bit_4_a
  | 5, .reg .b => .bit_5_b | 5, .reg .c => .bit_5_c | 5, .reg .d => .bit_5_d | 5, .reg .e => .bit_5_e
  | 5, .reg .h => .bit_5_h | 5, .reg .l => .bit_5_l | 5, .atHL => .bit_5_atHL | 5, .reg .a => .bit_5_a
  | 6, .reg .b => .bit_6_b | 6, .reg .c => .bit_6_c | 6, .reg .d => .bit_6_d | 6, .reg .e => .bit_6_e
  | 6, .reg .h => .bit_6_h | 6, .reg .l => .bit_6_l | 6, .atHL => .bit_6_atHL | 6, .reg .a => .bit_6_a
  | _, .reg .b => .bit_7_b | _, .reg .c => .bit_7_c | _, .reg .d => .bit_7_d | _, .reg .e => .bit_7_e
  | _, .reg .h => .bit_7_h | _, .reg .l => .bit_7_l | _, .atHL => .bit_7_atHL | _, .reg .a => .bit_7_a

/-- `RES y,r8[z]` (R310). -/
def Instr.res : Fin 8 → Opd8 → Instr
  | 0, .reg .b => .res_0_b | 0, .reg .c => .res_0_c | 0, .reg .d => .res_0_d | 0, .reg .e => .res_0_e
  | 0, .reg .h => .res_0_h | 0, .reg .l => .res_0_l | 0, .atHL => .res_0_atHL | 0, .reg .a => .res_0_a
  | 1, .reg .b => .res_1_b | 1, .reg .c => .res_1_c | 1, .reg .d => .res_1_d | 1, .reg .e => .res_1_e
  | 1, .reg .h => .res_1_h | 1, .reg .l => .res_1_l | 1, .atHL => .res_1_atHL | 1, .reg .a => .res_1_a
  | 2, .reg .b => .res_2_b | 2, .reg .c => .res_2_c | 2, .reg .d => .res_2_d | 2, .reg .e => .res_2_e
  | 2, .reg .h => .res_2_h | 2, .reg .l => .res_2_l | 2, .atHL => .res_2_atHL | 2, .reg .a => .res_2_a
  | 3, .reg .b => .res_3_b | 3, .reg .c => .res_3_c | 3, .reg .d => .res_3_d | 3, .reg .e => .res_3_e
  | 3, .reg .h => .res_3_h | 3, .reg .l => .res_3_l | 3, .atHL => .res_3_atHL | 3, .reg .a => .res_3_a
  | 4, .reg .b => .res_4_b | 4, .reg .c => .res_4_c | 4, .reg .d => .res_4_d | 4, .reg .e => .res_4_e
  | 4, .reg .h => .res_4_h | 4, .reg .l => .res_4_l | 4, .atHL => .res_4_atHL | 4, .reg .a => .res_4_a
  | 5, .reg .b => .res_5_b | 5, .reg .c => .res_5_c | 5, .reg .d => .res_5_d | 5, .reg .e => .res_5_e
  | 5, .reg .h => .res_5_h | 5, .reg .l => .res_5_l | 5, .atHL => .res_5_atHL | 5, .reg .a => .res_5_a
  | 6, .reg .b => .res_6_b | 6, .reg .c => .res_6_c | 6, .reg .d => .res_6_d | 6, .reg .e => .res_6_e
  | 6, .reg .h => .res_6_h | 6, .reg .l => .res_6_l | 6, .atHL => .res_6_atHL | 6, .reg .a => .res_6_a
  | _, .reg .b => .res_7_b | _, .reg .c => .res_7_c | _, .reg .d => .res_7_d | _, .reg .e => .res_7_e
  | _, .reg .h => .res_7_h | _, .reg .l => .res_7_l | _, .atHL => .res_7_atHL | _, .reg .a => .res_7_a

/-- `SET y,r8[z]` (R311). -/
def Instr.set : Fin 8 → Opd8 → Instr
  | 0, .reg .b => .set_0_b | 0, .reg .c => .set_0_c | 0, .reg .d => .set_0_d | 0, .reg .e => .set_0_e
  | 0, .reg .h => .set_0_h | 0, .reg .l => .set_0_l | 0, .atHL => .set_0_atHL | 0, .reg .a => .set_0_a
  | 1, .reg .b => .set_1_b | 1, .reg .c => .set_1_c | 1, .reg .d => .set_1_d | 1, .reg .e => .set_1_e
  | 1, .reg .h => .set_1_h | 1, .reg .l => .set_1_l | 1, .atHL => .set_1_atHL | 1, .reg .a => .set_1_a
  | 2, .reg .b => .set_2_b | 2, .reg .c => .set_2_c | 2, .reg .d => .set_2_d | 2, .reg .e => .set_2_e
  | 2, .reg .h => .set_2_h | 2, .reg .l => .set_2_l | 2, .atHL => .set_2_atHL | 2, .reg .a => .set_2_a
  | 3, .reg .b => .set_3_b | 3, .reg .c => .set_3_c | 3, .reg .d => .set_3_d | 3, .reg .e => .set_3_e
  | 3, .reg .h => .set_3_h | 3, .reg .l => .set_3_l | 3, .atHL => .set_3_atHL | 3, .reg .a => .set_3_a
  | 4, .reg .b => .set_4_b | 4, .reg .c => .set_4_c | 4, .reg .d => .set_4_d | 4, .reg .e => .set_4_e
  | 4, .reg .h => .set_4_h | 4, .reg .l => .set_4_l | 4, .atHL => .set_4_atHL | 4, .reg .a => .set_4_a
  | 5, .reg .b => .set_5_b | 5, .reg .c => .set_5_c | 5, .reg .d => .set_5_d | 5, .reg .e => .set_5_e
  | 5, .reg .h => .set_5_h | 5, .reg .l => .set_5_l | 5, .atHL => .set_5_atHL | 5, .reg .a => .set_5_a
  | 6, .reg .b => .set_6_b | 6, .reg .c => .set_6_c | 6, .reg .d => .set_6_d | 6, .reg .e => .set_6_e
  | 6, .reg .h => .set_6_h | 6, .reg .l => .set_6_l | 6, .atHL => .set_6_atHL | 6, .reg .a => .set_6_a
  | _, .reg .b => .set_7_b | _, .reg .c => .set_7_c | _, .reg .d => .set_7_d | _, .reg .e => .set_7_e
  | _, .reg .h => .set_7_h | _, .reg .l => .set_7_l | _, .atHL => .set_7_atHL | _, .reg .a => .set_7_a

/-! ### Operand codes -/

/-- The operand code `r8` (R92). -/
def Opd8.ofCode : Fin 8 → Opd8
  | 0 => .reg .b | 1 => .reg .c | 2 => .reg .d | 3 => .reg .e | 4 => .reg .h | 5 => .reg .l | 6 => .atHL | _ => .reg .a

/-- The operation code `rot` (R99). -/
def RotOp.ofCode : Fin 8 → RotOp
  | 0 => .rlc | 1 => .rrc | 2 => .rl | 3 => .rr | 4 => .sla | 5 => .sra | 6 => .swap | _ => .srl

/-- The code of a register in the fields `y` and `z` (R92). -/
def Reg8.code : Reg8 → Nat
  | .b => 0 | .c => 1 | .d => 2 | .e => 3 | .h => 4 | .l => 5 | .a => 7

/-- The code of the operand `r8` (R92). -/
def Opd8.code : Opd8 → Nat
  | .reg r => r.code | .atHL => 6

/-- The code `rp` of a pair in the field `p` (R92). -/
def Pair.code : Pair → Nat
  | .bc => 0 | .de => 1 | .hl => 2 | .sp => 3

/-- The code `rp2` of a pair in the field `p` (R92). -/
def Pair2.code : Pair2 → Nat
  | .bc => 0 | .de => 1 | .hl => 2 | .af => 3

/-- The code of a condition (R92). -/
def Cond.code : Cond → Nat
  | .nz => 0 | .z => 1 | .nc => 2 | .c => 3

/-- The code of an ALU operation in the field `y` (R92). -/
def AluOp.code : AluOp → Nat
  | .add => 0 | .adc => 1 | .sub => 2 | .sbc => 3 | .and => 4 | .xor => 5 | .or => 6 | .cp => 7

/-- The code of a rotate or shift in the field `y` (R99). -/
def RotOp.code : RotOp → Nat
  | .rlc => 0 | .rrc => 1 | .rl => 2 | .rr => 3 | .sla => 4 | .sra => 5 | .swap => 6 | .srl => 7

/-! ### The opcode maps -/

/-- What an opcode byte stands for, with the operand bytes it takes: none, one byte, a little-endian word (R90, R95), or, for
0xCB, the second opcode byte (R94). -/
inductive Form where
  | one   (i : Instr)
  | imm8  (f : Byte → Instr)
  | imm16 (f : Word → Instr)
  | escape

/-- Row 0 of the unprefixed opcode map (R98), by the low nibble. -/
def opcodeRow0 : Fin 16 → Form
  | 0 => .one .nop | 1 => .imm16 .ld_bc_d16 | 2 => .one .ld_atBC_a | 3 => .one .inc_bc | 4 => .one .inc_b
  | 5 => .one .dec_b | 6 => .imm8 .ld_b_d8 | 7 => .one .rlca | 8 => .imm16 .ld_a16_sp | 9 => .one .add_hl_bc
  | 10 => .one .ld_a_atBC | 11 => .one .dec_bc | 12 => .one .inc_c | 13 => .one .dec_c | 14 => .imm8 .ld_c_d8
  | _ => .one .rrca

/-- Row 1 of the unprefixed opcode map (R98), by the low nibble. -/
def opcodeRow1 : Fin 16 → Form
  | 0 => .imm8 .stop | 1 => .imm16 .ld_de_d16 | 2 => .one .ld_atDE_a | 3 => .one .inc_de | 4 => .one .inc_d
  | 5 => .one .dec_d | 6 => .imm8 .ld_d_d8 | 7 => .one .rla | 8 => .imm8 .jr_e8 | 9 => .one .add_hl_de
  | 10 => .one .ld_a_atDE | 11 => .one .dec_de | 12 => .one .inc_e | 13 => .one .dec_e | 14 => .imm8 .ld_e_d8
  | _ => .one .rra

/-- Row 2 of the unprefixed opcode map (R98), by the low nibble. -/
def opcodeRow2 : Fin 16 → Form
  | 0 => .imm8 .jr_nz_e8 | 1 => .imm16 .ld_hl_d16 | 2 => .one .ld_atHLinc_a | 3 => .one .inc_hl | 4 => .one .inc_h
  | 5 => .one .dec_h | 6 => .imm8 .ld_h_d8 | 7 => .one .daa | 8 => .imm8 .jr_z_e8 | 9 => .one .add_hl_hl
  | 10 => .one .ld_a_atHLinc | 11 => .one .dec_hl | 12 => .one .inc_l | 13 => .one .dec_l | 14 => .imm8 .ld_l_d8
  | _ => .one .cpl

/-- Row 3 of the unprefixed opcode map (R98), by the low nibble. -/
def opcodeRow3 : Fin 16 → Form
  | 0 => .imm8 .jr_nc_e8 | 1 => .imm16 .ld_sp_d16 | 2 => .one .ld_atHLdec_a | 3 => .one .inc_sp | 4 => .one .inc_atHL
  | 5 => .one .dec_atHL | 6 => .imm8 .ld_atHL_d8 | 7 => .one .scf | 8 => .imm8 .jr_c_e8 | 9 => .one .add_hl_sp
  | 10 => .one .ld_a_atHLdec | 11 => .one .dec_sp | 12 => .one .inc_a | 13 => .one .dec_a | 14 => .imm8 .ld_a_d8
  | _ => .one .ccf

/-- Row 4 of the unprefixed opcode map (R98), by the low nibble. -/
def opcodeRow4 : Fin 16 → Form
  | 0 => .one .ld_b_b | 1 => .one .ld_b_c | 2 => .one .ld_b_d | 3 => .one .ld_b_e | 4 => .one .ld_b_h
  | 5 => .one .ld_b_l | 6 => .one .ld_b_atHL | 7 => .one .ld_b_a | 8 => .one .ld_c_b | 9 => .one .ld_c_c
  | 10 => .one .ld_c_d | 11 => .one .ld_c_e | 12 => .one .ld_c_h | 13 => .one .ld_c_l | 14 => .one .ld_c_atHL
  | _ => .one .ld_c_a

/-- Row 5 of the unprefixed opcode map (R98), by the low nibble. -/
def opcodeRow5 : Fin 16 → Form
  | 0 => .one .ld_d_b | 1 => .one .ld_d_c | 2 => .one .ld_d_d | 3 => .one .ld_d_e | 4 => .one .ld_d_h
  | 5 => .one .ld_d_l | 6 => .one .ld_d_atHL | 7 => .one .ld_d_a | 8 => .one .ld_e_b | 9 => .one .ld_e_c
  | 10 => .one .ld_e_d | 11 => .one .ld_e_e | 12 => .one .ld_e_h | 13 => .one .ld_e_l | 14 => .one .ld_e_atHL
  | _ => .one .ld_e_a

/-- Row 6 of the unprefixed opcode map (R98), by the low nibble. -/
def opcodeRow6 : Fin 16 → Form
  | 0 => .one .ld_h_b | 1 => .one .ld_h_c | 2 => .one .ld_h_d | 3 => .one .ld_h_e | 4 => .one .ld_h_h
  | 5 => .one .ld_h_l | 6 => .one .ld_h_atHL | 7 => .one .ld_h_a | 8 => .one .ld_l_b | 9 => .one .ld_l_c
  | 10 => .one .ld_l_d | 11 => .one .ld_l_e | 12 => .one .ld_l_h | 13 => .one .ld_l_l | 14 => .one .ld_l_atHL
  | _ => .one .ld_l_a

/-- Row 7 of the unprefixed opcode map (R98), by the low nibble. -/
def opcodeRow7 : Fin 16 → Form
  | 0 => .one .ld_atHL_b | 1 => .one .ld_atHL_c | 2 => .one .ld_atHL_d | 3 => .one .ld_atHL_e | 4 => .one .ld_atHL_h
  | 5 => .one .ld_atHL_l | 6 => .one .halt | 7 => .one .ld_atHL_a | 8 => .one .ld_a_b | 9 => .one .ld_a_c
  | 10 => .one .ld_a_d | 11 => .one .ld_a_e | 12 => .one .ld_a_h | 13 => .one .ld_a_l | 14 => .one .ld_a_atHL
  | _ => .one .ld_a_a

/-- Row 8 of the unprefixed opcode map (R98), by the low nibble. -/
def opcodeRow8 : Fin 16 → Form
  | 0 => .one .add_a_b | 1 => .one .add_a_c | 2 => .one .add_a_d | 3 => .one .add_a_e | 4 => .one .add_a_h
  | 5 => .one .add_a_l | 6 => .one .add_a_atHL | 7 => .one .add_a_a | 8 => .one .adc_a_b | 9 => .one .adc_a_c
  | 10 => .one .adc_a_d | 11 => .one .adc_a_e | 12 => .one .adc_a_h | 13 => .one .adc_a_l | 14 => .one .adc_a_atHL
  | _ => .one .adc_a_a

/-- Row 9 of the unprefixed opcode map (R98), by the low nibble. -/
def opcodeRow9 : Fin 16 → Form
  | 0 => .one .sub_a_b | 1 => .one .sub_a_c | 2 => .one .sub_a_d | 3 => .one .sub_a_e | 4 => .one .sub_a_h
  | 5 => .one .sub_a_l | 6 => .one .sub_a_atHL | 7 => .one .sub_a_a | 8 => .one .sbc_a_b | 9 => .one .sbc_a_c
  | 10 => .one .sbc_a_d | 11 => .one .sbc_a_e | 12 => .one .sbc_a_h | 13 => .one .sbc_a_l | 14 => .one .sbc_a_atHL
  | _ => .one .sbc_a_a

/-- Row A of the unprefixed opcode map (R98), by the low nibble. -/
def opcodeRowA : Fin 16 → Form
  | 0 => .one .and_a_b | 1 => .one .and_a_c | 2 => .one .and_a_d | 3 => .one .and_a_e | 4 => .one .and_a_h
  | 5 => .one .and_a_l | 6 => .one .and_a_atHL | 7 => .one .and_a_a | 8 => .one .xor_a_b | 9 => .one .xor_a_c
  | 10 => .one .xor_a_d | 11 => .one .xor_a_e | 12 => .one .xor_a_h | 13 => .one .xor_a_l | 14 => .one .xor_a_atHL
  | _ => .one .xor_a_a

/-- Row B of the unprefixed opcode map (R98), by the low nibble. -/
def opcodeRowB : Fin 16 → Form
  | 0 => .one .or_a_b | 1 => .one .or_a_c | 2 => .one .or_a_d | 3 => .one .or_a_e | 4 => .one .or_a_h
  | 5 => .one .or_a_l | 6 => .one .or_a_atHL | 7 => .one .or_a_a | 8 => .one .cp_a_b | 9 => .one .cp_a_c
  | 10 => .one .cp_a_d | 11 => .one .cp_a_e | 12 => .one .cp_a_h | 13 => .one .cp_a_l | 14 => .one .cp_a_atHL
  | _ => .one .cp_a_a

/-- Row C of the unprefixed opcode map (R98), by the low nibble. -/
def opcodeRowC : Fin 16 → Form
  | 0 => .one .ret_nz | 1 => .one .pop_bc | 2 => .imm16 .jp_nz_a16 | 3 => .imm16 .jp_a16 | 4 => .imm16 .call_nz_a16
  | 5 => .one .push_bc | 6 => .imm8 .add_a_d8 | 7 => .one .rst_00h | 8 => .one .ret_z | 9 => .one .ret
  | 10 => .imm16 .jp_z_a16 | 11 => .escape | 12 => .imm16 .call_z_a16 | 13 => .imm16 .call_a16 | 14 => .imm8 .adc_a_d8
  | _ => .one .rst_08h

/-- Row D of the unprefixed opcode map (R98), by the low nibble. -/
def opcodeRowD : Fin 16 → Form
  | 0 => .one .ret_nc | 1 => .one .pop_de | 2 => .imm16 .jp_nc_a16 | 3 => .one .illegal_d3 | 4 => .imm16 .call_nc_a16
  | 5 => .one .push_de | 6 => .imm8 .sub_a_d8 | 7 => .one .rst_10h | 8 => .one .ret_c | 9 => .one .reti
  | 10 => .imm16 .jp_c_a16 | 11 => .one .illegal_db | 12 => .imm16 .call_c_a16 | 13 => .one .illegal_dd
  | 14 => .imm8 .sbc_a_d8 | _ => .one .rst_18h

/-- Row E of the unprefixed opcode map (R98), by the low nibble. -/
def opcodeRowE : Fin 16 → Form
  | 0 => .imm8 .ldh_a8_a | 1 => .one .pop_hl | 2 => .one .ld_atC_a | 3 => .one .illegal_e3 | 4 => .one .illegal_e4
  | 5 => .one .push_hl | 6 => .imm8 .and_a_d8 | 7 => .one .rst_20h | 8 => .imm8 .add_sp_e8 | 9 => .one .jp_hl
  | 10 => .imm16 .ld_a16_a | 11 => .one .illegal_eb | 12 => .one .illegal_ec | 13 => .one .illegal_ed
  | 14 => .imm8 .xor_a_d8 | _ => .one .rst_28h

/-- Row F of the unprefixed opcode map (R98), by the low nibble. -/
def opcodeRowF : Fin 16 → Form
  | 0 => .imm8 .ldh_a_a8 | 1 => .one .pop_af | 2 => .one .ld_a_atC | 3 => .one .di | 4 => .one .illegal_f4
  | 5 => .one .push_af | 6 => .imm8 .or_a_d8 | 7 => .one .rst_30h | 8 => .imm8 .ld_hl_sp_e8 | 9 => .one .ld_sp_hl
  | 10 => .imm16 .ld_a_a16 | 11 => .one .ei | 12 => .one .illegal_fc | 13 => .one .illegal_fd | 14 => .imm8 .cp_a_d8
  | _ => .one .rst_38h

/-- The unprefixed opcode map, by high and low nibble (R98). -/
def opcodeMap (high low : Fin 16) : Form :=
  match high with
  | 0 => opcodeRow0 low
  | 1 => opcodeRow1 low
  | 2 => opcodeRow2 low
  | 3 => opcodeRow3 low
  | 4 => opcodeRow4 low
  | 5 => opcodeRow5 low
  | 6 => opcodeRow6 low
  | 7 => opcodeRow7 low
  | 8 => opcodeRow8 low
  | 9 => opcodeRow9 low
  | 10 => opcodeRowA low
  | 11 => opcodeRowB low
  | 12 => opcodeRowC low
  | 13 => opcodeRowD low
  | 14 => opcodeRowE low
  | _ => opcodeRowF low

/-- What the opcode byte `op` stands for (R98). -/
def formOf (op : Byte) : Form :=
  opcodeMap (op.extractLsb' 4 4).toFin (op.extractLsb' 0 4).toFin

/-- The field `x = op[7:6]` (R91). -/
def fieldX (op : Byte) : Fin 4 := (op.extractLsb' 6 2).toFin

/-- The field `y = op[5:3]` (R91). -/
def fieldY (op : Byte) : Fin 8 := (op.extractLsb' 3 3).toFin

/-- The field `z = op[2:0]` (R91). -/
def fieldZ (op : Byte) : Fin 8 := (op.extractLsb' 0 3).toFin

/-- The 0xCB-prefixed map, by the fields of the second opcode byte (R99). -/
def cbInstr (op2 : Byte) : Instr :=
  match fieldX op2 with
  | 0 => Instr.rot (RotOp.ofCode (fieldY op2)) (Opd8.ofCode (fieldZ op2))
  | 1 => Instr.bit (fieldY op2) (Opd8.ofCode (fieldZ op2))
  | 2 => Instr.res (fieldY op2) (Opd8.ofCode (fieldZ op2))
  | _ => Instr.set (fieldY op2) (Opd8.ofCode (fieldZ op2))

/-! ### The decoder -/

/-- The decoder's rejections. -/
inductive DecodeError where
  /-- No byte was given. -/
  | noBytes
  /-- The opcode is there and an operand byte of its format is not. -/
  | missingOperand (op : Byte)
  deriving DecidableEq, Repr

/-- Decode the instruction at the head of a byte sequence and return the bytes after it (R90, R94, R95, R98, R99). An illegal
byte decodes to its own row (R101), which has no descriptor; the escape with nothing after it is the row PREFIX CB (R93). -/
def decode : List Byte → Except DecodeError (Instr × List Byte)
  | [] => .error .noBytes
  | op :: rest =>
    match formOf op, rest with
    | .one i, rest => .ok (i, rest)
    | .imm8 f, x :: rest => .ok (f x, rest)
    | .imm16 f, l :: h :: rest => .ok (f (word h l), rest)
    | .escape, op2 :: rest => .ok (cbInstr op2, rest)
    | .escape, [] => .ok (.prefix_cb, [])
    | .imm8 _, [] => .error (.missingOperand op)
    | .imm16 _, [] => .error (.missingOperand op)
    | .imm16 _, [_] => .error (.missingOperand op)

/-- The instruction whose first three bytes in memory are `b0`, `b1`, `b2`; the bytes its format does not have are not used
(R94, R102). -/
def decodeAt (b0 b1 b2 : Byte) : Instr :=
  match formOf b0 with
  | .one i => i
  | .imm8 f => f b1
  | .imm16 f => f (word b2 b1)
  | .escape => cbInstr b1

/-! ### The rows of the table -/

/-- The `layer` of a row (R104); `escape` is the row PREFIX CB. -/
inductive Layer where
  | core | ext | illegal | escape
  deriving DecidableEq, Repr

/-- An instruction descriptor (R93): name, length in bytes, base cycle cost (taken and not taken differ for a conditional
instruction, R388), and whether it belongs to the 0xCB table. -/
structure Descriptor where
  name           : String
  length         : Nat
  cycles         : Nat
  cyclesNotTaken : Nat
  isCb           : Bool
  deriving DecidableEq, Repr

/-- A row of spec/opcode_table.json (R104) for one instruction: the key (R93), the layer, the condition of a conditional
instruction (R271), the descriptor (none for an illegal byte and for the escape alone), and the operand bytes (R95). -/
structure TableRow where
  key      : Nat
  layer    : Layer
  cond     : Option Cond
  descr    : Option Descriptor
  operands : List Byte
  deriving DecidableEq, Repr

/-- A row of the core layer. -/
def TableRow.core (key : Nat) (name : String) (length cycles : Nat) (operands : List Byte) : TableRow :=
  ⟨key, .core, none, some ⟨name, length, cycles, cycles, false⟩, operands⟩

/-- An unconditional, unprefixed row of the extension layer. -/
def TableRow.ext (key : Nat) (name : String) (length cycles : Nat) (operands : List Byte) : TableRow :=
  ⟨key, .ext, none, some ⟨name, length, cycles, cycles, false⟩, operands⟩

/-- A conditional row of the extension layer. -/
def TableRow.extCond (key : Nat) (name : String) (cc : Cond) (length taken notTaken : Nat) (operands : List Byte) : TableRow :=
  ⟨key, .ext, some cc, some ⟨name, length, taken, notTaken, false⟩, operands⟩

/-- A row of the 0xCB table; its key is `0xCB00 + op2` and its length is 2, the escape included (R93, R96). -/
def TableRow.cb (key : Nat) (name : String) (cycles : Nat) : TableRow :=
  ⟨key, .ext, none, some ⟨name, 2, cycles, cycles, true⟩, []⟩

/-- The row of an illegal byte (R100). -/
def TableRow.illegal (key : Nat) : TableRow :=
  ⟨key, .illegal, none, none, []⟩

/-- The table's row of an instruction. -/
def Instr.row : Instr → TableRow
  | .nop => .core 0x00 "NOP" 1 4 []
  | .ld_bc_d16 w => .core 0x01 "LD BC,d16" 3 12 (bytesLE w)
  | .ld_atBC_a => .core 0x02 "LD (BC),A" 1 8 []
  | .inc_bc => .core 0x03 "INC BC" 1 8 []
  | .inc_b => .core 0x04 "INC B" 1 4 []
  | .dec_b => .core 0x05 "DEC B" 1 4 []
  | .ld_b_d8 x => .core 0x06 "LD B,d8" 2 8 [x]
  | .rlca => .ext 0x07 "RLCA" 1 4 []
  | .ld_a16_sp w => .core 0x08 "LD (a16),SP" 3 20 (bytesLE w)
  | .add_hl_bc => .ext 0x09 "ADD HL,BC" 1 8 []
  | .ld_a_atBC => .core 0x0A "LD A,(BC)" 1 8 []
  | .dec_bc => .core 0x0B "DEC BC" 1 8 []
  | .inc_c => .core 0x0C "INC C" 1 4 []
  | .dec_c => .core 0x0D "DEC C" 1 4 []
  | .ld_c_d8 x => .core 0x0E "LD C,d8" 2 8 [x]
  | .rrca => .ext 0x0F "RRCA" 1 4 []
  | .stop x => .core 0x10 "STOP" 2 4 [x]
  | .ld_de_d16 w => .core 0x11 "LD DE,d16" 3 12 (bytesLE w)
  | .ld_atDE_a => .core 0x12 "LD (DE),A" 1 8 []
  | .inc_de => .core 0x13 "INC DE" 1 8 []
  | .inc_d => .core 0x14 "INC D" 1 4 []
  | .dec_d => .core 0x15 "DEC D" 1 4 []
  | .ld_d_d8 x => .core 0x16 "LD D,d8" 2 8 [x]
  | .rla => .ext 0x17 "RLA" 1 4 []
  | .jr_e8 x => .core 0x18 "JR e8" 2 12 [x]
  | .add_hl_de => .ext 0x19 "ADD HL,DE" 1 8 []
  | .ld_a_atDE => .core 0x1A "LD A,(DE)" 1 8 []
  | .dec_de => .core 0x1B "DEC DE" 1 8 []
  | .inc_e => .core 0x1C "INC E" 1 4 []
  | .dec_e => .core 0x1D "DEC E" 1 4 []
  | .ld_e_d8 x => .core 0x1E "LD E,d8" 2 8 [x]
  | .rra => .ext 0x1F "RRA" 1 4 []
  | .jr_nz_e8 x => .extCond 0x20 "JR NZ,e8" .nz 2 12 8 [x]
  | .ld_hl_d16 w => .core 0x21 "LD HL,d16" 3 12 (bytesLE w)
  | .ld_atHLinc_a => .core 0x22 "LD (HL+),A" 1 8 []
  | .inc_hl => .core 0x23 "INC HL" 1 8 []
  | .inc_h => .core 0x24 "INC H" 1 4 []
  | .dec_h => .core 0x25 "DEC H" 1 4 []
  | .ld_h_d8 x => .core 0x26 "LD H,d8" 2 8 [x]
  | .daa => .ext 0x27 "DAA" 1 4 []
  | .jr_z_e8 x => .extCond 0x28 "JR Z,e8" .z 2 12 8 [x]
  | .add_hl_hl => .ext 0x29 "ADD HL,HL" 1 8 []
  | .ld_a_atHLinc => .core 0x2A "LD A,(HL+)" 1 8 []
  | .dec_hl => .core 0x2B "DEC HL" 1 8 []
  | .inc_l => .core 0x2C "INC L" 1 4 []
  | .dec_l => .core 0x2D "DEC L" 1 4 []
  | .ld_l_d8 x => .core 0x2E "LD L,d8" 2 8 [x]
  | .cpl => .core 0x2F "CPL" 1 4 []
  | .jr_nc_e8 x => .extCond 0x30 "JR NC,e8" .nc 2 12 8 [x]
  | .ld_sp_d16 w => .core 0x31 "LD SP,d16" 3 12 (bytesLE w)
  | .ld_atHLdec_a => .core 0x32 "LD (HL-),A" 1 8 []
  | .inc_sp => .core 0x33 "INC SP" 1 8 []
  | .inc_atHL => .core 0x34 "INC (HL)" 1 12 []
  | .dec_atHL => .core 0x35 "DEC (HL)" 1 12 []
  | .ld_atHL_d8 x => .core 0x36 "LD (HL),d8" 2 12 [x]
  | .scf => .ext 0x37 "SCF" 1 4 []
  | .jr_c_e8 x => .extCond 0x38 "JR C,e8" .c 2 12 8 [x]
  | .add_hl_sp => .ext 0x39 "ADD HL,SP" 1 8 []
  | .ld_a_atHLdec => .core 0x3A "LD A,(HL-)" 1 8 []
  | .dec_sp => .core 0x3B "DEC SP" 1 8 []
  | .inc_a => .core 0x3C "INC A" 1 4 []
  | .dec_a => .core 0x3D "DEC A" 1 4 []
  | .ld_a_d8 x => .core 0x3E "LD A,d8" 2 8 [x]
  | .ccf => .ext 0x3F "CCF" 1 4 []
  | .ld_b_b => .core 0x40 "LD B,B" 1 4 []
  | .ld_b_c => .core 0x41 "LD B,C" 1 4 []
  | .ld_b_d => .core 0x42 "LD B,D" 1 4 []
  | .ld_b_e => .core 0x43 "LD B,E" 1 4 []
  | .ld_b_h => .core 0x44 "LD B,H" 1 4 []
  | .ld_b_l => .core 0x45 "LD B,L" 1 4 []
  | .ld_b_atHL => .core 0x46 "LD B,(HL)" 1 8 []
  | .ld_b_a => .core 0x47 "LD B,A" 1 4 []
  | .ld_c_b => .core 0x48 "LD C,B" 1 4 []
  | .ld_c_c => .core 0x49 "LD C,C" 1 4 []
  | .ld_c_d => .core 0x4A "LD C,D" 1 4 []
  | .ld_c_e => .core 0x4B "LD C,E" 1 4 []
  | .ld_c_h => .core 0x4C "LD C,H" 1 4 []
  | .ld_c_l => .core 0x4D "LD C,L" 1 4 []
  | .ld_c_atHL => .core 0x4E "LD C,(HL)" 1 8 []
  | .ld_c_a => .core 0x4F "LD C,A" 1 4 []
  | .ld_d_b => .core 0x50 "LD D,B" 1 4 []
  | .ld_d_c => .core 0x51 "LD D,C" 1 4 []
  | .ld_d_d => .core 0x52 "LD D,D" 1 4 []
  | .ld_d_e => .core 0x53 "LD D,E" 1 4 []
  | .ld_d_h => .core 0x54 "LD D,H" 1 4 []
  | .ld_d_l => .core 0x55 "LD D,L" 1 4 []
  | .ld_d_atHL => .core 0x56 "LD D,(HL)" 1 8 []
  | .ld_d_a => .core 0x57 "LD D,A" 1 4 []
  | .ld_e_b => .core 0x58 "LD E,B" 1 4 []
  | .ld_e_c => .core 0x59 "LD E,C" 1 4 []
  | .ld_e_d => .core 0x5A "LD E,D" 1 4 []
  | .ld_e_e => .core 0x5B "LD E,E" 1 4 []
  | .ld_e_h => .core 0x5C "LD E,H" 1 4 []
  | .ld_e_l => .core 0x5D "LD E,L" 1 4 []
  | .ld_e_atHL => .core 0x5E "LD E,(HL)" 1 8 []
  | .ld_e_a => .core 0x5F "LD E,A" 1 4 []
  | .ld_h_b => .core 0x60 "LD H,B" 1 4 []
  | .ld_h_c => .core 0x61 "LD H,C" 1 4 []
  | .ld_h_d => .core 0x62 "LD H,D" 1 4 []
  | .ld_h_e => .core 0x63 "LD H,E" 1 4 []
  | .ld_h_h => .core 0x64 "LD H,H" 1 4 []
  | .ld_h_l => .core 0x65 "LD H,L" 1 4 []
  | .ld_h_atHL => .core 0x66 "LD H,(HL)" 1 8 []
  | .ld_h_a => .core 0x67 "LD H,A" 1 4 []
  | .ld_l_b => .core 0x68 "LD L,B" 1 4 []
  | .ld_l_c => .core 0x69 "LD L,C" 1 4 []
  | .ld_l_d => .core 0x6A "LD L,D" 1 4 []
  | .ld_l_e => .core 0x6B "LD L,E" 1 4 []
  | .ld_l_h => .core 0x6C "LD L,H" 1 4 []
  | .ld_l_l => .core 0x6D "LD L,L" 1 4 []
  | .ld_l_atHL => .core 0x6E "LD L,(HL)" 1 8 []
  | .ld_l_a => .core 0x6F "LD L,A" 1 4 []
  | .ld_atHL_b => .core 0x70 "LD (HL),B" 1 8 []
  | .ld_atHL_c => .core 0x71 "LD (HL),C" 1 8 []
  | .ld_atHL_d => .core 0x72 "LD (HL),D" 1 8 []
  | .ld_atHL_e => .core 0x73 "LD (HL),E" 1 8 []
  | .ld_atHL_h => .core 0x74 "LD (HL),H" 1 8 []
  | .ld_atHL_l => .core 0x75 "LD (HL),L" 1 8 []
  | .halt => .core 0x76 "HALT" 1 4 []
  | .ld_atHL_a => .core 0x77 "LD (HL),A" 1 8 []
  | .ld_a_b => .core 0x78 "LD A,B" 1 4 []
  | .ld_a_c => .core 0x79 "LD A,C" 1 4 []
  | .ld_a_d => .core 0x7A "LD A,D" 1 4 []
  | .ld_a_e => .core 0x7B "LD A,E" 1 4 []
  | .ld_a_h => .core 0x7C "LD A,H" 1 4 []
  | .ld_a_l => .core 0x7D "LD A,L" 1 4 []
  | .ld_a_atHL => .core 0x7E "LD A,(HL)" 1 8 []
  | .ld_a_a => .core 0x7F "LD A,A" 1 4 []
  | .add_a_b => .core 0x80 "ADD A,B" 1 4 []
  | .add_a_c => .core 0x81 "ADD A,C" 1 4 []
  | .add_a_d => .core 0x82 "ADD A,D" 1 4 []
  | .add_a_e => .core 0x83 "ADD A,E" 1 4 []
  | .add_a_h => .core 0x84 "ADD A,H" 1 4 []
  | .add_a_l => .core 0x85 "ADD A,L" 1 4 []
  | .add_a_atHL => .core 0x86 "ADD A,(HL)" 1 8 []
  | .add_a_a => .core 0x87 "ADD A,A" 1 4 []
  | .adc_a_b => .core 0x88 "ADC A,B" 1 4 []
  | .adc_a_c => .core 0x89 "ADC A,C" 1 4 []
  | .adc_a_d => .core 0x8A "ADC A,D" 1 4 []
  | .adc_a_e => .core 0x8B "ADC A,E" 1 4 []
  | .adc_a_h => .core 0x8C "ADC A,H" 1 4 []
  | .adc_a_l => .core 0x8D "ADC A,L" 1 4 []
  | .adc_a_atHL => .core 0x8E "ADC A,(HL)" 1 8 []
  | .adc_a_a => .core 0x8F "ADC A,A" 1 4 []
  | .sub_a_b => .core 0x90 "SUB A,B" 1 4 []
  | .sub_a_c => .core 0x91 "SUB A,C" 1 4 []
  | .sub_a_d => .core 0x92 "SUB A,D" 1 4 []
  | .sub_a_e => .core 0x93 "SUB A,E" 1 4 []
  | .sub_a_h => .core 0x94 "SUB A,H" 1 4 []
  | .sub_a_l => .core 0x95 "SUB A,L" 1 4 []
  | .sub_a_atHL => .core 0x96 "SUB A,(HL)" 1 8 []
  | .sub_a_a => .core 0x97 "SUB A,A" 1 4 []
  | .sbc_a_b => .core 0x98 "SBC A,B" 1 4 []
  | .sbc_a_c => .core 0x99 "SBC A,C" 1 4 []
  | .sbc_a_d => .core 0x9A "SBC A,D" 1 4 []
  | .sbc_a_e => .core 0x9B "SBC A,E" 1 4 []
  | .sbc_a_h => .core 0x9C "SBC A,H" 1 4 []
  | .sbc_a_l => .core 0x9D "SBC A,L" 1 4 []
  | .sbc_a_atHL => .core 0x9E "SBC A,(HL)" 1 8 []
  | .sbc_a_a => .core 0x9F "SBC A,A" 1 4 []
  | .and_a_b => .core 0xA0 "AND A,B" 1 4 []
  | .and_a_c => .core 0xA1 "AND A,C" 1 4 []
  | .and_a_d => .core 0xA2 "AND A,D" 1 4 []
  | .and_a_e => .core 0xA3 "AND A,E" 1 4 []
  | .and_a_h => .core 0xA4 "AND A,H" 1 4 []
  | .and_a_l => .core 0xA5 "AND A,L" 1 4 []
  | .and_a_atHL => .core 0xA6 "AND A,(HL)" 1 8 []
  | .and_a_a => .core 0xA7 "AND A,A" 1 4 []
  | .xor_a_b => .core 0xA8 "XOR A,B" 1 4 []
  | .xor_a_c => .core 0xA9 "XOR A,C" 1 4 []
  | .xor_a_d => .core 0xAA "XOR A,D" 1 4 []
  | .xor_a_e => .core 0xAB "XOR A,E" 1 4 []
  | .xor_a_h => .core 0xAC "XOR A,H" 1 4 []
  | .xor_a_l => .core 0xAD "XOR A,L" 1 4 []
  | .xor_a_atHL => .core 0xAE "XOR A,(HL)" 1 8 []
  | .xor_a_a => .core 0xAF "XOR A,A" 1 4 []
  | .or_a_b => .core 0xB0 "OR A,B" 1 4 []
  | .or_a_c => .core 0xB1 "OR A,C" 1 4 []
  | .or_a_d => .core 0xB2 "OR A,D" 1 4 []
  | .or_a_e => .core 0xB3 "OR A,E" 1 4 []
  | .or_a_h => .core 0xB4 "OR A,H" 1 4 []
  | .or_a_l => .core 0xB5 "OR A,L" 1 4 []
  | .or_a_atHL => .core 0xB6 "OR A,(HL)" 1 8 []
  | .or_a_a => .core 0xB7 "OR A,A" 1 4 []
  | .cp_a_b => .core 0xB8 "CP A,B" 1 4 []
  | .cp_a_c => .core 0xB9 "CP A,C" 1 4 []
  | .cp_a_d => .core 0xBA "CP A,D" 1 4 []
  | .cp_a_e => .core 0xBB "CP A,E" 1 4 []
  | .cp_a_h => .core 0xBC "CP A,H" 1 4 []
  | .cp_a_l => .core 0xBD "CP A,L" 1 4 []
  | .cp_a_atHL => .core 0xBE "CP A,(HL)" 1 8 []
  | .cp_a_a => .core 0xBF "CP A,A" 1 4 []
  | .ret_nz => .extCond 0xC0 "RET NZ" .nz 1 20 8 []
  | .pop_bc => .core 0xC1 "POP BC" 1 12 []
  | .jp_nz_a16 w => .extCond 0xC2 "JP NZ,a16" .nz 3 16 12 (bytesLE w)
  | .jp_a16 w => .core 0xC3 "JP a16" 3 16 (bytesLE w)
  | .call_nz_a16 w => .extCond 0xC4 "CALL NZ,a16" .nz 3 24 12 (bytesLE w)
  | .push_bc => .core 0xC5 "PUSH BC" 1 16 []
  | .add_a_d8 x => .core 0xC6 "ADD A,d8" 2 8 [x]
  | .rst_00h => .core 0xC7 "RST 00H" 1 16 []
  | .ret_z => .extCond 0xC8 "RET Z" .z 1 20 8 []
  | .ret => .core 0xC9 "RET" 1 16 []
  | .jp_z_a16 w => .extCond 0xCA "JP Z,a16" .z 3 16 12 (bytesLE w)
  | .prefix_cb => ⟨0xCB, .escape, none, none, []⟩
  | .call_z_a16 w => .extCond 0xCC "CALL Z,a16" .z 3 24 12 (bytesLE w)
  | .call_a16 w => .core 0xCD "CALL a16" 3 24 (bytesLE w)
  | .adc_a_d8 x => .core 0xCE "ADC A,d8" 2 8 [x]
  | .rst_08h => .core 0xCF "RST 08H" 1 16 []
  | .ret_nc => .extCond 0xD0 "RET NC" .nc 1 20 8 []
  | .pop_de => .core 0xD1 "POP DE" 1 12 []
  | .jp_nc_a16 w => .extCond 0xD2 "JP NC,a16" .nc 3 16 12 (bytesLE w)
  | .illegal_d3 => .illegal 0xD3
  | .call_nc_a16 w => .extCond 0xD4 "CALL NC,a16" .nc 3 24 12 (bytesLE w)
  | .push_de => .core 0xD5 "PUSH DE" 1 16 []
  | .sub_a_d8 x => .core 0xD6 "SUB A,d8" 2 8 [x]
  | .rst_10h => .core 0xD7 "RST 10H" 1 16 []
  | .ret_c => .extCond 0xD8 "RET C" .c 1 20 8 []
  | .reti => .core 0xD9 "RETI" 1 16 []
  | .jp_c_a16 w => .extCond 0xDA "JP C,a16" .c 3 16 12 (bytesLE w)
  | .illegal_db => .illegal 0xDB
  | .call_c_a16 w => .extCond 0xDC "CALL C,a16" .c 3 24 12 (bytesLE w)
  | .illegal_dd => .illegal 0xDD
  | .sbc_a_d8 x => .core 0xDE "SBC A,d8" 2 8 [x]
  | .rst_18h => .core 0xDF "RST 18H" 1 16 []
  | .ldh_a8_a x => .core 0xE0 "LDH (a8),A" 2 12 [x]
  | .pop_hl => .core 0xE1 "POP HL" 1 12 []
  | .ld_atC_a => .core 0xE2 "LD (C),A" 1 8 []
  | .illegal_e3 => .illegal 0xE3
  | .illegal_e4 => .illegal 0xE4
  | .push_hl => .core 0xE5 "PUSH HL" 1 16 []
  | .and_a_d8 x => .core 0xE6 "AND A,d8" 2 8 [x]
  | .rst_20h => .core 0xE7 "RST 20H" 1 16 []
  | .add_sp_e8 x => .ext 0xE8 "ADD SP,e8" 2 16 [x]
  | .jp_hl => .ext 0xE9 "JP HL" 1 4 []
  | .ld_a16_a w => .core 0xEA "LD (a16),A" 3 16 (bytesLE w)
  | .illegal_eb => .illegal 0xEB
  | .illegal_ec => .illegal 0xEC
  | .illegal_ed => .illegal 0xED
  | .xor_a_d8 x => .core 0xEE "XOR A,d8" 2 8 [x]
  | .rst_28h => .core 0xEF "RST 28H" 1 16 []
  | .ldh_a_a8 x => .core 0xF0 "LDH A,(a8)" 2 12 [x]
  | .pop_af => .core 0xF1 "POP AF" 1 12 []
  | .ld_a_atC => .core 0xF2 "LD A,(C)" 1 8 []
  | .di => .core 0xF3 "DI" 1 4 []
  | .illegal_f4 => .illegal 0xF4
  | .push_af => .core 0xF5 "PUSH AF" 1 16 []
  | .or_a_d8 x => .core 0xF6 "OR A,d8" 2 8 [x]
  | .rst_30h => .core 0xF7 "RST 30H" 1 16 []
  | .ld_hl_sp_e8 x => .ext 0xF8 "LD HL,SP+e8" 2 12 [x]
  | .ld_sp_hl => .core 0xF9 "LD SP,HL" 1 8 []
  | .ld_a_a16 w => .core 0xFA "LD A,(a16)" 3 16 (bytesLE w)
  | .ei => .core 0xFB "EI" 1 4 []
  | .illegal_fc => .illegal 0xFC
  | .illegal_fd => .illegal 0xFD
  | .cp_a_d8 x => .core 0xFE "CP A,d8" 2 8 [x]
  | .rst_38h => .core 0xFF "RST 38H" 1 16 []
  | .rlc_b => .cb 0xCB00 "RLC B" 8
  | .rlc_c => .cb 0xCB01 "RLC C" 8
  | .rlc_d => .cb 0xCB02 "RLC D" 8
  | .rlc_e => .cb 0xCB03 "RLC E" 8
  | .rlc_h => .cb 0xCB04 "RLC H" 8
  | .rlc_l => .cb 0xCB05 "RLC L" 8
  | .rlc_atHL => .cb 0xCB06 "RLC (HL)" 16
  | .rlc_a => .cb 0xCB07 "RLC A" 8
  | .rrc_b => .cb 0xCB08 "RRC B" 8
  | .rrc_c => .cb 0xCB09 "RRC C" 8
  | .rrc_d => .cb 0xCB0A "RRC D" 8
  | .rrc_e => .cb 0xCB0B "RRC E" 8
  | .rrc_h => .cb 0xCB0C "RRC H" 8
  | .rrc_l => .cb 0xCB0D "RRC L" 8
  | .rrc_atHL => .cb 0xCB0E "RRC (HL)" 16
  | .rrc_a => .cb 0xCB0F "RRC A" 8
  | .rl_b => .cb 0xCB10 "RL B" 8
  | .rl_c => .cb 0xCB11 "RL C" 8
  | .rl_d => .cb 0xCB12 "RL D" 8
  | .rl_e => .cb 0xCB13 "RL E" 8
  | .rl_h => .cb 0xCB14 "RL H" 8
  | .rl_l => .cb 0xCB15 "RL L" 8
  | .rl_atHL => .cb 0xCB16 "RL (HL)" 16
  | .rl_a => .cb 0xCB17 "RL A" 8
  | .rr_b => .cb 0xCB18 "RR B" 8
  | .rr_c => .cb 0xCB19 "RR C" 8
  | .rr_d => .cb 0xCB1A "RR D" 8
  | .rr_e => .cb 0xCB1B "RR E" 8
  | .rr_h => .cb 0xCB1C "RR H" 8
  | .rr_l => .cb 0xCB1D "RR L" 8
  | .rr_atHL => .cb 0xCB1E "RR (HL)" 16
  | .rr_a => .cb 0xCB1F "RR A" 8
  | .sla_b => .cb 0xCB20 "SLA B" 8
  | .sla_c => .cb 0xCB21 "SLA C" 8
  | .sla_d => .cb 0xCB22 "SLA D" 8
  | .sla_e => .cb 0xCB23 "SLA E" 8
  | .sla_h => .cb 0xCB24 "SLA H" 8
  | .sla_l => .cb 0xCB25 "SLA L" 8
  | .sla_atHL => .cb 0xCB26 "SLA (HL)" 16
  | .sla_a => .cb 0xCB27 "SLA A" 8
  | .sra_b => .cb 0xCB28 "SRA B" 8
  | .sra_c => .cb 0xCB29 "SRA C" 8
  | .sra_d => .cb 0xCB2A "SRA D" 8
  | .sra_e => .cb 0xCB2B "SRA E" 8
  | .sra_h => .cb 0xCB2C "SRA H" 8
  | .sra_l => .cb 0xCB2D "SRA L" 8
  | .sra_atHL => .cb 0xCB2E "SRA (HL)" 16
  | .sra_a => .cb 0xCB2F "SRA A" 8
  | .swap_b => .cb 0xCB30 "SWAP B" 8
  | .swap_c => .cb 0xCB31 "SWAP C" 8
  | .swap_d => .cb 0xCB32 "SWAP D" 8
  | .swap_e => .cb 0xCB33 "SWAP E" 8
  | .swap_h => .cb 0xCB34 "SWAP H" 8
  | .swap_l => .cb 0xCB35 "SWAP L" 8
  | .swap_atHL => .cb 0xCB36 "SWAP (HL)" 16
  | .swap_a => .cb 0xCB37 "SWAP A" 8
  | .srl_b => .cb 0xCB38 "SRL B" 8
  | .srl_c => .cb 0xCB39 "SRL C" 8
  | .srl_d => .cb 0xCB3A "SRL D" 8
  | .srl_e => .cb 0xCB3B "SRL E" 8
  | .srl_h => .cb 0xCB3C "SRL H" 8
  | .srl_l => .cb 0xCB3D "SRL L" 8
  | .srl_atHL => .cb 0xCB3E "SRL (HL)" 16
  | .srl_a => .cb 0xCB3F "SRL A" 8
  | .bit_0_b => .cb 0xCB40 "BIT 0,B" 8
  | .bit_0_c => .cb 0xCB41 "BIT 0,C" 8
  | .bit_0_d => .cb 0xCB42 "BIT 0,D" 8
  | .bit_0_e => .cb 0xCB43 "BIT 0,E" 8
  | .bit_0_h => .cb 0xCB44 "BIT 0,H" 8
  | .bit_0_l => .cb 0xCB45 "BIT 0,L" 8
  | .bit_0_atHL => .cb 0xCB46 "BIT 0,(HL)" 12
  | .bit_0_a => .cb 0xCB47 "BIT 0,A" 8
  | .bit_1_b => .cb 0xCB48 "BIT 1,B" 8
  | .bit_1_c => .cb 0xCB49 "BIT 1,C" 8
  | .bit_1_d => .cb 0xCB4A "BIT 1,D" 8
  | .bit_1_e => .cb 0xCB4B "BIT 1,E" 8
  | .bit_1_h => .cb 0xCB4C "BIT 1,H" 8
  | .bit_1_l => .cb 0xCB4D "BIT 1,L" 8
  | .bit_1_atHL => .cb 0xCB4E "BIT 1,(HL)" 12
  | .bit_1_a => .cb 0xCB4F "BIT 1,A" 8
  | .bit_2_b => .cb 0xCB50 "BIT 2,B" 8
  | .bit_2_c => .cb 0xCB51 "BIT 2,C" 8
  | .bit_2_d => .cb 0xCB52 "BIT 2,D" 8
  | .bit_2_e => .cb 0xCB53 "BIT 2,E" 8
  | .bit_2_h => .cb 0xCB54 "BIT 2,H" 8
  | .bit_2_l => .cb 0xCB55 "BIT 2,L" 8
  | .bit_2_atHL => .cb 0xCB56 "BIT 2,(HL)" 12
  | .bit_2_a => .cb 0xCB57 "BIT 2,A" 8
  | .bit_3_b => .cb 0xCB58 "BIT 3,B" 8
  | .bit_3_c => .cb 0xCB59 "BIT 3,C" 8
  | .bit_3_d => .cb 0xCB5A "BIT 3,D" 8
  | .bit_3_e => .cb 0xCB5B "BIT 3,E" 8
  | .bit_3_h => .cb 0xCB5C "BIT 3,H" 8
  | .bit_3_l => .cb 0xCB5D "BIT 3,L" 8
  | .bit_3_atHL => .cb 0xCB5E "BIT 3,(HL)" 12
  | .bit_3_a => .cb 0xCB5F "BIT 3,A" 8
  | .bit_4_b => .cb 0xCB60 "BIT 4,B" 8
  | .bit_4_c => .cb 0xCB61 "BIT 4,C" 8
  | .bit_4_d => .cb 0xCB62 "BIT 4,D" 8
  | .bit_4_e => .cb 0xCB63 "BIT 4,E" 8
  | .bit_4_h => .cb 0xCB64 "BIT 4,H" 8
  | .bit_4_l => .cb 0xCB65 "BIT 4,L" 8
  | .bit_4_atHL => .cb 0xCB66 "BIT 4,(HL)" 12
  | .bit_4_a => .cb 0xCB67 "BIT 4,A" 8
  | .bit_5_b => .cb 0xCB68 "BIT 5,B" 8
  | .bit_5_c => .cb 0xCB69 "BIT 5,C" 8
  | .bit_5_d => .cb 0xCB6A "BIT 5,D" 8
  | .bit_5_e => .cb 0xCB6B "BIT 5,E" 8
  | .bit_5_h => .cb 0xCB6C "BIT 5,H" 8
  | .bit_5_l => .cb 0xCB6D "BIT 5,L" 8
  | .bit_5_atHL => .cb 0xCB6E "BIT 5,(HL)" 12
  | .bit_5_a => .cb 0xCB6F "BIT 5,A" 8
  | .bit_6_b => .cb 0xCB70 "BIT 6,B" 8
  | .bit_6_c => .cb 0xCB71 "BIT 6,C" 8
  | .bit_6_d => .cb 0xCB72 "BIT 6,D" 8
  | .bit_6_e => .cb 0xCB73 "BIT 6,E" 8
  | .bit_6_h => .cb 0xCB74 "BIT 6,H" 8
  | .bit_6_l => .cb 0xCB75 "BIT 6,L" 8
  | .bit_6_atHL => .cb 0xCB76 "BIT 6,(HL)" 12
  | .bit_6_a => .cb 0xCB77 "BIT 6,A" 8
  | .bit_7_b => .cb 0xCB78 "BIT 7,B" 8
  | .bit_7_c => .cb 0xCB79 "BIT 7,C" 8
  | .bit_7_d => .cb 0xCB7A "BIT 7,D" 8
  | .bit_7_e => .cb 0xCB7B "BIT 7,E" 8
  | .bit_7_h => .cb 0xCB7C "BIT 7,H" 8
  | .bit_7_l => .cb 0xCB7D "BIT 7,L" 8
  | .bit_7_atHL => .cb 0xCB7E "BIT 7,(HL)" 12
  | .bit_7_a => .cb 0xCB7F "BIT 7,A" 8
  | .res_0_b => .cb 0xCB80 "RES 0,B" 8
  | .res_0_c => .cb 0xCB81 "RES 0,C" 8
  | .res_0_d => .cb 0xCB82 "RES 0,D" 8
  | .res_0_e => .cb 0xCB83 "RES 0,E" 8
  | .res_0_h => .cb 0xCB84 "RES 0,H" 8
  | .res_0_l => .cb 0xCB85 "RES 0,L" 8
  | .res_0_atHL => .cb 0xCB86 "RES 0,(HL)" 16
  | .res_0_a => .cb 0xCB87 "RES 0,A" 8
  | .res_1_b => .cb 0xCB88 "RES 1,B" 8
  | .res_1_c => .cb 0xCB89 "RES 1,C" 8
  | .res_1_d => .cb 0xCB8A "RES 1,D" 8
  | .res_1_e => .cb 0xCB8B "RES 1,E" 8
  | .res_1_h => .cb 0xCB8C "RES 1,H" 8
  | .res_1_l => .cb 0xCB8D "RES 1,L" 8
  | .res_1_atHL => .cb 0xCB8E "RES 1,(HL)" 16
  | .res_1_a => .cb 0xCB8F "RES 1,A" 8
  | .res_2_b => .cb 0xCB90 "RES 2,B" 8
  | .res_2_c => .cb 0xCB91 "RES 2,C" 8
  | .res_2_d => .cb 0xCB92 "RES 2,D" 8
  | .res_2_e => .cb 0xCB93 "RES 2,E" 8
  | .res_2_h => .cb 0xCB94 "RES 2,H" 8
  | .res_2_l => .cb 0xCB95 "RES 2,L" 8
  | .res_2_atHL => .cb 0xCB96 "RES 2,(HL)" 16
  | .res_2_a => .cb 0xCB97 "RES 2,A" 8
  | .res_3_b => .cb 0xCB98 "RES 3,B" 8
  | .res_3_c => .cb 0xCB99 "RES 3,C" 8
  | .res_3_d => .cb 0xCB9A "RES 3,D" 8
  | .res_3_e => .cb 0xCB9B "RES 3,E" 8
  | .res_3_h => .cb 0xCB9C "RES 3,H" 8
  | .res_3_l => .cb 0xCB9D "RES 3,L" 8
  | .res_3_atHL => .cb 0xCB9E "RES 3,(HL)" 16
  | .res_3_a => .cb 0xCB9F "RES 3,A" 8
  | .res_4_b => .cb 0xCBA0 "RES 4,B" 8
  | .res_4_c => .cb 0xCBA1 "RES 4,C" 8
  | .res_4_d => .cb 0xCBA2 "RES 4,D" 8
  | .res_4_e => .cb 0xCBA3 "RES 4,E" 8
  | .res_4_h => .cb 0xCBA4 "RES 4,H" 8
  | .res_4_l => .cb 0xCBA5 "RES 4,L" 8
  | .res_4_atHL => .cb 0xCBA6 "RES 4,(HL)" 16
  | .res_4_a => .cb 0xCBA7 "RES 4,A" 8
  | .res_5_b => .cb 0xCBA8 "RES 5,B" 8
  | .res_5_c => .cb 0xCBA9 "RES 5,C" 8
  | .res_5_d => .cb 0xCBAA "RES 5,D" 8
  | .res_5_e => .cb 0xCBAB "RES 5,E" 8
  | .res_5_h => .cb 0xCBAC "RES 5,H" 8
  | .res_5_l => .cb 0xCBAD "RES 5,L" 8
  | .res_5_atHL => .cb 0xCBAE "RES 5,(HL)" 16
  | .res_5_a => .cb 0xCBAF "RES 5,A" 8
  | .res_6_b => .cb 0xCBB0 "RES 6,B" 8
  | .res_6_c => .cb 0xCBB1 "RES 6,C" 8
  | .res_6_d => .cb 0xCBB2 "RES 6,D" 8
  | .res_6_e => .cb 0xCBB3 "RES 6,E" 8
  | .res_6_h => .cb 0xCBB4 "RES 6,H" 8
  | .res_6_l => .cb 0xCBB5 "RES 6,L" 8
  | .res_6_atHL => .cb 0xCBB6 "RES 6,(HL)" 16
  | .res_6_a => .cb 0xCBB7 "RES 6,A" 8
  | .res_7_b => .cb 0xCBB8 "RES 7,B" 8
  | .res_7_c => .cb 0xCBB9 "RES 7,C" 8
  | .res_7_d => .cb 0xCBBA "RES 7,D" 8
  | .res_7_e => .cb 0xCBBB "RES 7,E" 8
  | .res_7_h => .cb 0xCBBC "RES 7,H" 8
  | .res_7_l => .cb 0xCBBD "RES 7,L" 8
  | .res_7_atHL => .cb 0xCBBE "RES 7,(HL)" 16
  | .res_7_a => .cb 0xCBBF "RES 7,A" 8
  | .set_0_b => .cb 0xCBC0 "SET 0,B" 8
  | .set_0_c => .cb 0xCBC1 "SET 0,C" 8
  | .set_0_d => .cb 0xCBC2 "SET 0,D" 8
  | .set_0_e => .cb 0xCBC3 "SET 0,E" 8
  | .set_0_h => .cb 0xCBC4 "SET 0,H" 8
  | .set_0_l => .cb 0xCBC5 "SET 0,L" 8
  | .set_0_atHL => .cb 0xCBC6 "SET 0,(HL)" 16
  | .set_0_a => .cb 0xCBC7 "SET 0,A" 8
  | .set_1_b => .cb 0xCBC8 "SET 1,B" 8
  | .set_1_c => .cb 0xCBC9 "SET 1,C" 8
  | .set_1_d => .cb 0xCBCA "SET 1,D" 8
  | .set_1_e => .cb 0xCBCB "SET 1,E" 8
  | .set_1_h => .cb 0xCBCC "SET 1,H" 8
  | .set_1_l => .cb 0xCBCD "SET 1,L" 8
  | .set_1_atHL => .cb 0xCBCE "SET 1,(HL)" 16
  | .set_1_a => .cb 0xCBCF "SET 1,A" 8
  | .set_2_b => .cb 0xCBD0 "SET 2,B" 8
  | .set_2_c => .cb 0xCBD1 "SET 2,C" 8
  | .set_2_d => .cb 0xCBD2 "SET 2,D" 8
  | .set_2_e => .cb 0xCBD3 "SET 2,E" 8
  | .set_2_h => .cb 0xCBD4 "SET 2,H" 8
  | .set_2_l => .cb 0xCBD5 "SET 2,L" 8
  | .set_2_atHL => .cb 0xCBD6 "SET 2,(HL)" 16
  | .set_2_a => .cb 0xCBD7 "SET 2,A" 8
  | .set_3_b => .cb 0xCBD8 "SET 3,B" 8
  | .set_3_c => .cb 0xCBD9 "SET 3,C" 8
  | .set_3_d => .cb 0xCBDA "SET 3,D" 8
  | .set_3_e => .cb 0xCBDB "SET 3,E" 8
  | .set_3_h => .cb 0xCBDC "SET 3,H" 8
  | .set_3_l => .cb 0xCBDD "SET 3,L" 8
  | .set_3_atHL => .cb 0xCBDE "SET 3,(HL)" 16
  | .set_3_a => .cb 0xCBDF "SET 3,A" 8
  | .set_4_b => .cb 0xCBE0 "SET 4,B" 8
  | .set_4_c => .cb 0xCBE1 "SET 4,C" 8
  | .set_4_d => .cb 0xCBE2 "SET 4,D" 8
  | .set_4_e => .cb 0xCBE3 "SET 4,E" 8
  | .set_4_h => .cb 0xCBE4 "SET 4,H" 8
  | .set_4_l => .cb 0xCBE5 "SET 4,L" 8
  | .set_4_atHL => .cb 0xCBE6 "SET 4,(HL)" 16
  | .set_4_a => .cb 0xCBE7 "SET 4,A" 8
  | .set_5_b => .cb 0xCBE8 "SET 5,B" 8
  | .set_5_c => .cb 0xCBE9 "SET 5,C" 8
  | .set_5_d => .cb 0xCBEA "SET 5,D" 8
  | .set_5_e => .cb 0xCBEB "SET 5,E" 8
  | .set_5_h => .cb 0xCBEC "SET 5,H" 8
  | .set_5_l => .cb 0xCBED "SET 5,L" 8
  | .set_5_atHL => .cb 0xCBEE "SET 5,(HL)" 16
  | .set_5_a => .cb 0xCBEF "SET 5,A" 8
  | .set_6_b => .cb 0xCBF0 "SET 6,B" 8
  | .set_6_c => .cb 0xCBF1 "SET 6,C" 8
  | .set_6_d => .cb 0xCBF2 "SET 6,D" 8
  | .set_6_e => .cb 0xCBF3 "SET 6,E" 8
  | .set_6_h => .cb 0xCBF4 "SET 6,H" 8
  | .set_6_l => .cb 0xCBF5 "SET 6,L" 8
  | .set_6_atHL => .cb 0xCBF6 "SET 6,(HL)" 16
  | .set_6_a => .cb 0xCBF7 "SET 6,A" 8
  | .set_7_b => .cb 0xCBF8 "SET 7,B" 8
  | .set_7_c => .cb 0xCBF9 "SET 7,C" 8
  | .set_7_d => .cb 0xCBFA "SET 7,D" 8
  | .set_7_e => .cb 0xCBFB "SET 7,E" 8
  | .set_7_h => .cb 0xCBFC "SET 7,H" 8
  | .set_7_l => .cb 0xCBFD "SET 7,L" 8
  | .set_7_atHL => .cb 0xCBFE "SET 7,(HL)" 16
  | .set_7_a => .cb 0xCBFF "SET 7,A" 8

/-- The descriptor an instruction has in the machine instance with this value of `SM83_EXT`: the core rows always, the
extension rows when it is true, no other (R93). -/
def Instr.descriptor? (sm83Ext : Bool) (i : Instr) : Option Descriptor :=
  match i.row.layer with
  | .core => i.row.descr
  | .ext => if sm83Ext then i.row.descr else none
  | .illegal => none
  | .escape => none

/-! ### The encoder -/

/-- The opcode bytes of a key, in fetch order: one byte, or the escape and `op2` (R93, R104). -/
def keyBytes (key : Nat) : List Byte :=
  if key < 256 then [BitVec.ofNat 8 key] else [BitVec.ofNat 8 (key / 256), BitVec.ofNat 8 key]

/-- The bytes of an instruction in fetch order (R90, R95). -/
def encode (i : Instr) : List Byte :=
  keyBytes i.row.key ++ i.row.operands

/-! ### The table's words -/

/-- The bytes, in fetch order, of a word of `nbits` bits. A 16-bit word whose high byte is 0xCB is a row of the 0xCB table,
which the table numbers as `byte0 * 256 + byte1` (R104); every other word has its first byte in bits 7..0 (log 9). -/
def wordBytes (nbits w : Nat) : List Byte :=
  if nbits = 16 ∧ w / 256 = 0xCB then [BitVec.ofNat 8 (w / 256), BitVec.ofNat 8 w]
  else (List.range ((nbits + 7) / 8)).map fun k => BitVec.ofNat 8 (w / 256 ^ k)

/-- The instruction the decoder reads from the word `w` of `nbits` bits. The decoder is given the word's own bytes; where it
asks for operand bytes the word does not hold, they are zeros (log 9). -/
def decodeTableWord (nbits w : Nat) : Option Instr :=
  match decode (wordBytes nbits w) with
  | .ok (i, _) => some i
  | .error _ =>
    match decode (wordBytes nbits w ++ [0, 0]) with
    | .ok (i, _) => some i
    | .error _ => none

end Sys2Proof
end

