-- ==== Sys2Proof/Config.lean ====
section
/-! DEFINITION. The implementation parameters of R7. They are plain data: State carries a value of `Config`, constant for a
run, so that a statement about every state holds for every value of every parameter (log 1). -/

namespace Sys2Proof

/-- The four stored flags: Zero, Subtract, Half-Carry, Carry (R30). Their places in the byte F are `Flags.toByte`'s. -/
structure Flags where
  z : Bool
  n : Bool
  h : Bool
  c : Bool
  deriving DecidableEq, Repr

/-- `INIT_REGS` (R7): the register values at reset; `f` is the high nibble of F. -/
structure InitRegs where
  a : Byte
  f : Flags
  b : Byte
  c : Byte
  d : Byte
  e : Byte
  h : Byte
  l : Byte
  sp : Word
  deriving DecidableEq, Repr

/-- `INCDEC_FLAGS` (R7, R160). -/
inductive IncDecFlags where
  | unchanged
  | sm83
  deriving DecidableEq, Repr

/-- `FRAME_POINT` (R7, R343). -/
inductive FramePoint where
  | line0HblankEnd
  | vblankExit
  deriving DecidableEq, Repr

/-- One entry of a cost function given as a table: the cost of the descriptor with this key, for this branch outcome. -/
structure Cost where
  key   : Nat
  taken : Bool
  cost  : Nat
  deriving DecidableEq, Repr

/-- The parameters of R7. `cycles` and `ppuTicks` list the entries at which `CYCLES` and `PPU_TICKS` differ from their
defaults (the table's column, and `CYCLES / 4`); as descriptors are finitely many, every function is such a list (log 4).
`displayWidth` and `displayHeight` are the size of R350. -/
structure Config where
  resetPc       : Word
  initRegs      : InitRegs
  imageMax      : Nat
  sm83Ext       : Bool
  incdecFlags   : IncDecFlags
  cycles        : List Cost
  ppuTicks      : List Cost
  framePoint    : FramePoint
  bgMapBase     : Word
  winMapBase    : Word
  tileDataBase  : Word
  displayWidth  : Nat
  displayHeight : Nat
  deriving DecidableEq, Repr

/-- `INIT_REGS` of `State.reset`. DESIGN CHOICE (log 2), unsafe: the spec leaves every one of these values OPEN (R7, D6). -/
def InitRegs.zero : InitRegs :=
  { a := 0, f := ⟨false, false, false, false⟩, b := 0, c := 0, d := 0, e := 0, h := 0, l := 0, sp := 0 }

/-- The parameters of `State.reset`: the defaults of R7, the suggested `PPU_TICKS` (log 4), zero for the OPEN entries
(DESIGN CHOICE, log 2 and log 3), and 160 by 144 for the display (R350). -/
def Config.default : Config :=
  { resetPc := 0x0000, initRegs := InitRegs.zero, imageMax := 0x8000, sm83Ext := false, incdecFlags := .unchanged,
    cycles := [], ppuTicks := [], framePoint := .line0HblankEnd, bgMapBase := 0, winMapBase := 0, tileDataBase := 0,
    displayWidth := 160, displayHeight := 144 }

/-- The byte at an index of the buffer of a frame. A free value: R350 and U15 leave the content of a frame unconstrained
(log 12). -/
opaque Config.framePixel : Nat → Nat → Byte

end Sys2Proof
end

