-- ==== Sys2Proof/Machine/State.lean ====
section
/-! DEFINITION. The state of the machine (10_state.md R30 to R49, 20_memory.md R60), the reasons of a fault, the reasons of a
refusal, and the state after reset. -/

namespace Sys2Proof.Machine

/-- The reasons of `raise Fault(reason)` (R321, R324). The spec gives both a state, `Faulted(reason)`, so the model takes them
as NEXT states whose run state is `RunState.faulted`; no step and no meaning answers the outcome `fault` (log 7). -/
inductive Fault where
  /-- Raised by a step that finds no descriptor for its key, and by the meanings of the illegal bytes and of the lone
  escape (R320). Safe: it is the spec's own run state. -/
  | decode
  /-- Raised by JR and by a taken JR cc whose target is outside 0 to 0xFFFF (R322). Safe: it is the spec's own run state. -/
  | jumpRange
  deriving DecidableEq, Repr

/-- Why the model gives no next state. -/
inductive Refusal where
  /-- Raised by exec's arms for an instruction that has no meaning yet; no arm is left in that form. Safe. -/
  | notModelled (mnemonic : String)
  /-- Raised by `launch` for an image longer than `IMAGE_MAX`: "no state exists, no run happens" (R66, R380). Safe. -/
  | imageTooLarge
  deriving DecidableEq, Repr

/-- The reasons of `halt(reason)` (R215). -/
inductive HaltReason where
  | halt
  | stop
  deriving DecidableEq, Repr

/-- The interpreter run state (R41). -/
inductive RunState where
  | running
  | halted (reason : HaltReason)
  | faulted (reason : Fault)
  deriving DecidableEq, Repr

/-- The mode of the PPU timing engine (R42). -/
inductive PpuMode where
  | off
  | hblank
  | vblank
  | oamSearch
  | draw
  deriving DecidableEq, Repr

/-- The PPU timing state (R42); the three address offsets are parameters (R44) and stand in `Config`. -/
structure Ppu where
  mode : PpuMode
  ly   : Nat
  dot  : Nat
  deriving DecidableEq, Repr

/-- Memory as the list of the bytes that differ from 0, at strictly rising addresses; an unlisted address reads as 0 (R66). -/
abbrev Mem := List Host.Cell

/-- A line of the diagnostics trace: address, name, cycle cost, raw operand bytes (R356). -/
structure TraceLine where
  pc       : Word
  name     : String
  cycles   : Nat
  operands : List Byte
  deriving DecidableEq, Repr

/-- Everything the spec gives the machine (R30 to R46, R60), and the model's own `cfg` (R7), `hostAnswers` (R354: the host's
answers to come, true for open; an exhausted list answers open), `frames` (how many frames were produced, R350) and
`lastTrace` (the line the last loop iteration emitted, R356). -/
structure State where
  a : Byte
  flags : Flags
  b : Byte
  c : Byte
  d : Byte
  e : Byte
  h : Byte
  l : Byte
  sp : Word
  pc : Word
  ime : Bool
  runState : RunState
  mem : Mem
  ppu : Ppu
  displayOpen : Bool
  cfg : Config
  hostAnswers : List Bool
  frames : Nat
  lastTrace : Option TraceLine
  deriving DecidableEq, Repr

/-- What a meaning answers. -/
abbrev Result := Host.Outcome State Fault Refusal

/-- The machine after reset with the default parameters and the empty image (R49, R380): pc at `RESET_PC`, IME 0, Running,
every byte of memory 0, the PPU just started, the display open. A to L, F and SP are `INIT_REGS`, which the spec leaves OPEN:
0 is a DESIGN CHOICE (log 2). `launch` is the reset sequence for any image and parameters. -/
def State.reset : State :=
  { a := 0, flags := ⟨false, false, false, false⟩, b := 0, c := 0, d := 0, e := 0, h := 0, l := 0, sp := 0,
    pc := 0x0000, ime := false, runState := .running, mem := [], ppu := { mode := .oamSearch, ly := 0, dot := 0 },
    displayOpen := true, cfg := Config.default, hostAnswers := [], frames := 1, lastTrace := none }

end Sys2Proof.Machine
end

