-- ==== Sys2Proof/Machine/Flags.lean ====
section
/-! DEFINITION. Every flag computation of the spec: F as a byte (R34, R35), the ALU (R230 to R239), increment and decrement
(R160), 16-bit and SP-relative addition (R268, R269), decimal adjust (R265), the rotates and shifts (R261 to R264, R301 to
R308), the bit test (R309), and the conditions (R271). -/

namespace Sys2Proof.Machine

/-- F as addressed: Z in bit 7, N in bit 6, H in bit 5, C in bit 4, bits 3:0 zero (R34, R35). -/
def flagsToByte (f : Flags) : Byte :=
  BitVec.ofNat 8 (128 * f.z.toNat + 64 * f.n.toNat + 32 * f.h.toNat + 16 * f.c.toNat)

/-- A write of a byte to F stores bits 7:4 only (R34, R35). -/
def flagsOfByte (v : Byte) : Flags :=
  { z := bitOf v 7, n := bitOf v 6, h := bitOf v 5, c := bitOf v 4 }

/-- A result byte with the flags it sets. -/
structure ByteResult where
  res   : Byte
  flags : Flags
  deriving DecidableEq, Repr

/-- A result word with the flags it sets. -/
structure WordResult where
  res   : Word
  flags : Flags
  deriving DecidableEq, Repr

/-! ### The ALU -/

/-- The sum of R231 (`cin` false) and R232. -/
def addBytes (a b : Byte) (cin : Bool) : ByteResult :=
  let s := a.toNat + b.toNat + cin.toNat
  let res : Byte := BitVec.ofNat 8 s
  { res := res
    flags := { z := res == 0, n := false
               h := decide (a.toNat % 16 + b.toNat % 16 + cin.toNat > 0x0F), c := decide (s > 0xFF) } }

/-- The difference of R233 (`cin` false) and R234. -/
def subBytes (a b : Byte) (cin : Bool) : ByteResult :=
  let res : Byte := a - b - BitVec.ofNat 8 cin.toNat
  { res := res
    flags := { z := res == 0, n := true
               h := decide (a.toNat % 16 < b.toNat % 16 + cin.toNat), c := decide (a.toNat < b.toNat + cin.toNat) } }

/-- The flags of a bitwise operation: Z from the result, the others 0 (R236 to R239). -/
def bitwise (res : Byte) : ByteResult :=
  { res := res, flags := { z := res == 0, n := false, h := false, c := false } }

/-- Result and flags of an ALU operation on `a` and `b`, with the Carry flag `c` read before (R230 to R238). -/
def aluCompute (op : AluOp) (a b : Byte) (c : Bool) : ByteResult :=
  match op with
  | .add => addBytes a b false
  | .adc => addBytes a b c
  | .sub => subBytes a b false
  | .sbc => subBytes a b c
  | .and => bitwise (a &&& b)
  | .xor => bitwise (a ^^^ b)
  | .or => bitwise (a ||| b)
  | .cp => subBytes a b false

/-! ### Increment and decrement -/

/-- `IncFlags(old, res)` (R160); C is kept. -/
def incFlags (old res : Byte) (f : Flags) : Flags :=
  { z := res == 0, n := false, h := decide (old.toNat % 16 = 0x0F), c := f.c }

/-- `DecFlags(old, res)` (R160); C is kept. -/
def decFlags (old res : Byte) (f : Flags) : Flags :=
  { z := res == 0, n := true, h := decide (old.toNat % 16 = 0), c := f.c }

/-- Result and flags of an 8-bit increment under `INCDEC_FLAGS` (R160, R161). -/
def incByte (mode : IncDecFlags) (old : Byte) (f : Flags) : ByteResult :=
  let res := old + 1
  { res := res
    flags := match mode with
      | .unchanged => f
      | .sm83 => incFlags old res f }

/-- Result and flags of an 8-bit decrement under `INCDEC_FLAGS` (R160, R162). -/
def decByte (mode : IncDecFlags) (old : Byte) (f : Flags) : ByteResult :=
  let res := old - 1
  { res := res
    flags := match mode with
      | .unchanged => f
      | .sm83 => decFlags old res f }

/-! ### 16-bit and SP-relative addition -/

/-- `ADD HL,rp`: H from bit 11, C from bit 15, Z kept (R268). -/
def addWords (h v : Word) (f : Flags) : WordResult :=
  { res := h + v
    flags := { z := f.z, n := false, h := decide (h.toNat % 4096 + v.toNat % 4096 > 0x0FFF)
               c := decide (h.toNat + v.toNat > 0xFFFF) } }

/-- `SP + e8`: the sum wraps, H and C are those of the unsigned addition of the low byte (R269, R270). -/
def addSpDisp (sp : Word) (u : Byte) : WordResult :=
  { res := BitVec.ofInt 16 ((sp.toNat : Int) + sext16 u)
    flags := { z := false, n := false, h := decide (sp.toNat % 16 + u.toNat % 16 > 0x0F)
               c := decide (sp.toNat % 256 + u.toNat > 0xFF) } }

/-! ### Decimal adjust -/

/-- The adjusted value of `DAA`, before its reduction to a byte, and the new Carry (R265). -/
def daaAdjust (a : Nat) (f : Flags) : Int × Bool :=
  if f.n then
    let a₁ : Int := if f.c then (a : Int) - 0x60 else a
    let a₂ : Int := if f.h then a₁ - 0x06 else a₁
    (a₂, f.c)
  else
    let high := f.c || decide (a > 0x99)
    let a₁ := if high then a + 0x60 else a
    let a₂ := if f.h || decide (a₁ % 16 > 0x09) then a₁ + 0x06 else a₁
    ((a₂ : Int), high)

/-- Result and flags of `DAA`; N is kept (R265). -/
def daaCompute (a : Byte) (f : Flags) : ByteResult :=
  let r := daaAdjust a.toNat f
  let res : Byte := BitVec.ofInt 8 r.1
  { res := res, flags := { z := res == 0, n := f.n, h := false, c := r.2 } }

/-! ### Rotates and shifts -/

/-- The result byte and the Carry of `rot[y]` on `v`, with the Carry flag `cin` read before (R301 to R308). -/
def rotCompute (op : RotOp) (v : Byte) (cin : Bool) : Byte × Bool :=
  match op with
  | .rlc => ((v <<< 1) ||| BitVec.ofNat 8 (bitOf v 7).toNat, bitOf v 7)
  | .rrc => ((v >>> 1) ||| (BitVec.ofNat 8 (bitOf v 0).toNat <<< 7), bitOf v 0)
  | .rl => ((v <<< 1) ||| BitVec.ofNat 8 cin.toNat, bitOf v 7)
  | .rr => ((v >>> 1) ||| (BitVec.ofNat 8 cin.toNat <<< 7), bitOf v 0)
  | .sla => (v <<< 1, bitOf v 7)
  | .sra => ((v >>> 1) ||| (v &&& 0x80), bitOf v 0)
  | .swap => (((v &&& 0x0F) <<< 4) ||| (v >>> 4), false)
  | .srl => (v >>> 1, bitOf v 0)

/-- The flags of the 0xCB rotates and shifts: Z from the result, N and H 0 (47_ext_cb.md, R301 to R308). -/
def rotFlags (res : Byte) (c : Bool) : Flags :=
  { z := res == 0, n := false, h := false, c := c }

/-- The flags of RLCA, RRCA, RLA and RRA: Z is 0 whatever the result (R261 to R264). -/
def rotAFlags (c : Bool) : Flags :=
  { z := false, n := false, h := false, c := c }

/-- The flags of `BIT y`: Z is the complement of the bit, H is 1, C is kept (R309). -/
def bitTestFlags (y : Fin 8) (v : Byte) (f : Flags) : Flags :=
  { z := !bitOf v y, n := false, h := true, c := f.c }

/-- `v & ~(1 << y)` (R310). -/
def clearBit (y : Fin 8) (v : Byte) : Byte := v &&& ~~~((1 : Byte) <<< y.val)

/-- `v | (1 << y)` (R311). -/
def setBit (y : Fin 8) (v : Byte) : Byte := v ||| ((1 : Byte) <<< y.val)

/-! ### Conditions -/

/-- `cond(cc)` (R271). -/
def condHolds (cc : Cond) (f : Flags) : Bool :=
  match cc with
  | .nz => !f.z
  | .z => f.z
  | .nc => !f.c
  | .c => f.c

end Sys2Proof.Machine
end

