-- ==== Sys2Proof/Machine/Ops.lean ====
section
/-! DEFINITION. The named operations every meaning is built from: the memory bus (R60 to R66), the registers and pairs (R31 to
R37), the stack (R200, R201), jumps, calls and returns (R180 to R186), halt and stop (R215), and `raise Fault` (R321). -/

namespace Sys2Proof.Machine

/-! ### The memory image -/

/-- The byte at an address; an unlisted address reads as 0 (R61, R66). -/
def Memory.read : Mem → Nat → Byte
  | [], _ => 0
  | (k, v) :: m, a => if k = a then v else Memory.read m a

/-- The memory without an entry for `a`, so that `a` reads as 0. -/
def Memory.erase : Mem → Nat → Mem
  | [], _ => []
  | (k, v) :: m, a => if k = a then Memory.erase m a else (k, v) :: Memory.erase m a

/-- Put the entry `(a, v)` in its place in the rising order. -/
def Memory.insert : Mem → Nat → Byte → Mem
  | [], a, v => [(a, v)]
  | (k, w) :: m, a, v => if a < k then (a, v) :: (k, w) :: m else (k, w) :: Memory.insert m a v

/-- `mem[a] <- v` and no other byte (R63), in the canonical form: writing 0, which an unlisted address reads as, removes the
entry. -/
def Memory.write (m : Mem) (a : Nat) (v : Byte) : Mem :=
  if v = 0 then Memory.erase m a else Memory.insert (Memory.erase m a) a v

/-- The canonical form of the part of a memory from the address `low` up: addresses strictly rising and below 0x10000 (R60),
no listed byte 0. -/
def Memory.wfFrom : Nat → Mem → Bool
  | _, [] => true
  | low, (k, v) :: m => decide (low ≤ k) && decide (k < 0x10000) && decide (v ≠ 0) && Memory.wfFrom (k + 1) m

/-- The canonical form of a memory. -/
def Memory.wf (m : Mem) : Bool := Memory.wfFrom 0 m

/-- The bytes of an image from the address `k` up. -/
def Memory.ofImageFrom : Nat → List Byte → Mem
  | _, [] => []
  | k, v :: bs => if v = 0 then Memory.ofImageFrom (k + 1) bs else (k, v) :: Memory.ofImageFrom (k + 1) bs

/-- The memory after loading an image at 0x0000 (R66); a byte beyond the last address has nowhere to go (log 14). -/
def Memory.ofImage (image : List Byte) : Mem := Memory.ofImageFrom 0 (image.take 0x10000)

/-! ### The bus -/

/-- The client tag of a bus access (R61). -/
inductive Client where
  | cpu
  | ppu
  deriving DecidableEq, Repr

/-- `MemRead(client, a, 1)`; the tag changes nothing (R61, D37). -/
def State.busRead (s : State) (_client : Client) (a : Word) : Byte := Memory.read s.mem a.toNat

/-- `MemRead(a, 1)` of the CPU (R61). -/
def State.read (s : State) (a : Word) : Byte := s.busRead .cpu a

/-- `MemRead(a, 2)`, little-endian, the second address mod 2^16 (R62). -/
def State.readWord (s : State) (a : Word) : Word := word (s.read (a + 1)) (s.read a)

/-- `MemWrite(a, 1, v)` (R63, R64). -/
def State.write (s : State) (a : Word) (v : Byte) : State := { s with mem := Memory.write s.mem a.toNat v }

/-- `MemWrite(a, 2, v)`: the low byte at `a` first, then the high byte at `a + 1` mod 2^16 (R63). -/
def State.writeWord (s : State) (a : Word) (v : Word) : State := (s.write a (lo v)).write (a + 1) (hi v)

/-! ### The registers -/

/-- `x[R]` (R31). -/
def State.reg (s : State) (r : Reg8) : Byte :=
  match r with
  | .b => s.b
  | .c => s.c
  | .d => s.d
  | .e => s.e
  | .h => s.h
  | .l => s.l
  | .a => s.a

/-- `x[R] <- v` (R31). -/
def State.setReg (s : State) (r : Reg8) (v : Byte) : State :=
  match r with
  | .b => { s with b := v }
  | .c => { s with c := v }
  | .d => { s with d := v }
  | .e => { s with e := v }
  | .h => { s with h := v }
  | .l => { s with l := v }
  | .a => { s with a := v }

/-- `x[BC]`, `x[DE]`, `x[HL]` or `x[SP]` (R32). -/
def State.pair (s : State) (p : Pair) : Word :=
  match p with
  | .bc => word s.b s.c
  | .de => word s.d s.e
  | .hl => word s.h s.l
  | .sp => s.sp

/-- A pair write: the high byte to the first register, the low byte to the second (R33). -/
def State.setPair (s : State) (p : Pair) (v : Word) : State :=
  match p with
  | .bc => { s with b := hi v, c := lo v }
  | .de => { s with d := hi v, e := lo v }
  | .hl => { s with h := hi v, l := lo v }
  | .sp => { s with sp := v }

/-- The pairs PUSH reads; `x[AF] = (x[A] : F)` (R32, R202). -/
def State.pair2 (s : State) (p : Pair2) : Word :=
  match p with
  | .bc => s.pair .bc
  | .de => s.pair .de
  | .hl => s.pair .hl
  | .af => word s.a (flagsToByte s.flags)

/-- The pairs POP writes; a write of AF stores bits 7:4 of its low half only (R33, R34, R203). -/
def State.setPair2 (s : State) (p : Pair2) (v : Word) : State :=
  match p with
  | .bc => s.setPair .bc v
  | .de => s.setPair .de v
  | .hl => s.setPair .hl v
  | .af => { s with a := hi v, flags := flagsOfByte (lo v) }

/-- Write all four flags. -/
def State.setFlags (s : State) (f : Flags) : State := { s with flags := f }

/-- `pc <- target` (R11). -/
def State.setPc (s : State) (t : Word) : State := { s with pc := t }

/-- `IME <- v` (R40). -/
def State.setIme (s : State) (v : Bool) : State := { s with ime := v }

/-- `pc <- (pc0 + len) mod 2^16` (R39, R96). -/
def State.advancePc (s : State) (len : Nat) : State := { s with pc := s.pc + BitVec.ofNat 16 len }

/-! ### Events -/

/-- `raise Fault(reason)`: the run state, and nothing else, changes (R321, R326). -/
def raiseFault (reason : Fault) (s : State) : State := { s with runState := .faulted reason }

/-- `halt(reason)`: the run state, and nothing else, changes (R215). -/
def haltWith (reason : HaltReason) (s : State) : State := { s with runState := .halted reason }

/-! ### The stack -/

/-- `Push(v)` (R200). -/
def pushWord (v : Word) (s : State) : State :=
  let sp := s.sp - 2
  { s with sp := sp }.writeWord sp v

/-- The value `Pop()` returns (R201). -/
def popValue (s : State) : Word := s.readWord s.sp

/-- The state `Pop()` leaves (R201). -/
def popState (s : State) : State := { s with sp := s.sp + 2 }

/-! ### Control transfer -/

/-- The target of a relative jump before the range check: the advanced pc plus `sext_16(imm8)` (R181). -/
def relTarget (s : State) (e8 : Byte) : Int := (s.pc.toNat : Int) + sext16 e8

/-- The relative jump: outside 0 to 0xFFFF it raises `Fault(JumpRange)` and pc keeps the advanced value (R181, R322). -/
def jumpRelative (e8 : Byte) (s : State) : State :=
  let t := relTarget s e8
  if t < 0 ∨ t > 0xFFFF then raiseFault .jumpRange s else s.setPc (BitVec.ofInt 16 t)

/-- `Push(pc); pc <- target` (R183). -/
def callTo (target : Word) (s : State) : State := (pushWord s.pc s).setPc target

/-- `pc <- Pop()` (R184). -/
def returnFrom (s : State) : State := (popState s).setPc (popValue s)

end Sys2Proof.Machine
end

