-- ==== Sys2Proof/Machine/Operands.lean ====
section
/-! DEFINITION. The operand forms (R92, R95, R120, R230, R300) and the shared operation of each instruction family. -/

namespace Sys2Proof.Machine

/-! ### Operand forms -/

/-- The value of the operand `r8`: a register, or the byte at the address in HL (R92, R300). -/
def State.opd (s : State) (o : Opd8) : Byte :=
  match o with
  | .reg r => s.reg r
  | .atHL => s.read (s.pair .hl)

/-- Write the operand `r8` (R92, R300). -/
def State.setOpd (s : State) (o : Opd8) (v : Byte) : State :=
  match o with
  | .reg r => s.setReg r v
  | .atHL => s.write (s.pair .hl) v

/-- The source byte of an ALU-class instruction (R230). -/
def State.aluSrc (s : State) (src : AluSrc) : Byte :=
  match src with
  | .opd o => s.opd o
  | .imm d8 => d8

/-! ### Loads (40_loads.md) -/

/-- Register-to-register copy (R37, R121). -/
def copyReg (dst src : Reg8) (s : State) : State := s.setReg dst (s.reg src)

/-- Load a register with the byte at `addr` (R124, R127, R128, R131, R140, R142). -/
def loadFrom (dst : Reg8) (addr : Word) (s : State) : State := s.setReg dst (s.read addr)

/-- Store a register at `addr` (R125, R129, R130, R132, R139, R141). -/
def storeTo (addr : Word) (r : Reg8) (s : State) : State := s.write addr (s.reg r)

/-- `LD (HL+),A` and `LD (HL-),A`: the store, then HL moved by `delta` (R133, R134). -/
def storeAMoveHL (delta : Word) (s : State) : State :=
  (storeTo (s.pair .hl) .a s).setPair .hl (s.pair .hl + delta)

/-- `LD A,(HL+)` and `LD A,(HL-)`: the load, then HL moved by `delta` (R135, R136). -/
def loadAMoveHL (delta : Word) (s : State) : State :=
  (loadFrom .a (s.pair .hl) s).setPair .hl (s.pair .hl + delta)

/-! ### Increment and decrement (41_incdec.md) -/

/-- `INC r8` and `INC (HL)` (R161, R163). -/
def incOperand (o : Opd8) (s : State) : State :=
  let r := incByte s.cfg.incdecFlags (s.opd o) s.flags
  (s.setOpd o r.res).setFlags r.flags

/-- `DEC r8` and `DEC (HL)` (R162, R164). -/
def decOperand (o : Opd8) (s : State) : State :=
  let r := decByte s.cfg.incdecFlags (s.opd o) s.flags
  (s.setOpd o r.res).setFlags r.flags

/-- `INC rp` (R165). -/
def incPair (p : Pair) (s : State) : State := s.setPair p (s.pair p + 1)

/-- `DEC rp` (R166). -/
def decPair (p : Pair) (s : State) : State := s.setPair p (s.pair p - 1)

/-! ### Stack (43_stack.md) -/

/-- `PUSH rp2` (R202). -/
def pushPair (p : Pair2) (s : State) : State := pushWord (s.pair2 p) s

/-- `POP rp2` (R203). -/
def popPair (p : Pair2) (s : State) : State := (popState s).setPair2 p (popValue s)

/-! ### ALU (45_alu.md) -/

/-- An ALU-class instruction: all four flags are written, and the result to A except for CP (R230, R235). -/
def aluOperate (op : AluOp) (src : AluSrc) (s : State) : State :=
  let r := aluCompute op s.a (s.aluSrc src) s.flags.c
  match op with
  | .cp => s.setFlags r.flags
  | .add | .adc | .sub | .sbc | .and | .xor | .or => (s.setReg .a r.res).setFlags r.flags

/-- `CPL` (R239). -/
def complementA (s : State) : State :=
  let r := bitwise (~~~s.a)
  (s.setReg .a r.res).setFlags r.flags

/-! ### Extension, unprefixed (46_ext_sm83.md) -/

/-- RLCA, RRCA, RLA and RRA: the rotation of A, with Z = 0 (R261 to R264). -/
def rotateA (op : RotOp) (s : State) : State :=
  let r := rotCompute op s.a s.flags.c
  (s.setReg .a r.1).setFlags (rotAFlags r.2)

/-- `DAA` (R265). -/
def decimalAdjust (s : State) : State :=
  let r := daaCompute s.a s.flags
  (s.setReg .a r.res).setFlags r.flags

/-- `SCF` (R266). -/
def setCarry (s : State) : State := s.setFlags { s.flags with n := false, h := false, c := true }

/-- `CCF` (R267). -/
def complementCarry (s : State) : State := s.setFlags { s.flags with n := false, h := false, c := !s.flags.c }

/-- `ADD HL,rp` (R268). -/
def addToHL (p : Pair) (s : State) : State :=
  let r := addWords (s.pair .hl) (s.pair p) s.flags
  (s.setPair .hl r.res).setFlags r.flags

/-- `ADD SP,e8` and `LD HL,SP+e8`: SP plus the displacement, to SP or to HL (R269, R270). -/
def spPlusTo (dst : Pair) (e8 : Byte) (s : State) : State :=
  let r := addSpDisp s.sp e8
  (s.setPair dst r.res).setFlags r.flags

/-- A conditional control transfer: the effect when `cond(cc)` holds, nothing otherwise (R271 to R275). -/
def whenCond (cc : Cond) (effect : State → State) (s : State) : State :=
  if condHolds cc s.flags then effect s else s

/-! ### Extension, 0xCB (47_ext_cb.md) -/

/-- `rot[y] r8[z]` (R300 to R308). -/
def rotOperand (op : RotOp) (o : Opd8) (s : State) : State :=
  let r := rotCompute op (s.opd o) s.flags.c
  (s.setOpd o r.1).setFlags (rotFlags r.1 r.2)

/-- `BIT y,r8[z]` (R309). -/
def testBit (y : Fin 8) (o : Opd8) (s : State) : State := s.setFlags (bitTestFlags y (s.opd o) s.flags)

/-- `RES y,r8[z]` (R310). -/
def resetBit (y : Fin 8) (o : Opd8) (s : State) : State := s.setOpd o (clearBit y (s.opd o))

/-- `SET y,r8[z]` (R311). -/
def setOneBit (y : Fin 8) (o : Opd8) (s : State) : State := s.setOpd o (setBit y (s.opd o))

end Sys2Proof.Machine
end

