-- ==== Sys2Proof/Machine/Alu.lean ====
section
/-! DEFINITION. The meanings of 45_alu.md (R230 to R239). -/

namespace Sys2Proof.Machine

/-- `CPL` (R239). -/
def exec_cpl (s : State) : Result := .next (complementA s)

/-- `ADD A,B` (R231). -/
def exec_add_a_b (s : State) : Result := .next (aluOperate .add (.opd (.reg .b)) s)

/-- `ADD A,C` (R231). -/
def exec_add_a_c (s : State) : Result := .next (aluOperate .add (.opd (.reg .c)) s)

/-- `ADD A,D` (R231). -/
def exec_add_a_d (s : State) : Result := .next (aluOperate .add (.opd (.reg .d)) s)

/-- `ADD A,E` (R231). -/
def exec_add_a_e (s : State) : Result := .next (aluOperate .add (.opd (.reg .e)) s)

/-- `ADD A,H` (R231). -/
def exec_add_a_h (s : State) : Result := .next (aluOperate .add (.opd (.reg .h)) s)

/-- `ADD A,L` (R231). -/
def exec_add_a_l (s : State) : Result := .next (aluOperate .add (.opd (.reg .l)) s)

/-- `ADD A,(HL)` (R231). -/
def exec_add_a_atHL (s : State) : Result := .next (aluOperate .add (.opd .atHL) s)

/-- `ADD A,A` (R231). -/
def exec_add_a_a (s : State) : Result := .next (aluOperate .add (.opd (.reg .a)) s)

/-- `ADC A,B` (R232). -/
def exec_adc_a_b (s : State) : Result := .next (aluOperate .adc (.opd (.reg .b)) s)

/-- `ADC A,C` (R232). -/
def exec_adc_a_c (s : State) : Result := .next (aluOperate .adc (.opd (.reg .c)) s)

/-- `ADC A,D` (R232). -/
def exec_adc_a_d (s : State) : Result := .next (aluOperate .adc (.opd (.reg .d)) s)

/-- `ADC A,E` (R232). -/
def exec_adc_a_e (s : State) : Result := .next (aluOperate .adc (.opd (.reg .e)) s)

/-- `ADC A,H` (R232). -/
def exec_adc_a_h (s : State) : Result := .next (aluOperate .adc (.opd (.reg .h)) s)

/-- `ADC A,L` (R232). -/
def exec_adc_a_l (s : State) : Result := .next (aluOperate .adc (.opd (.reg .l)) s)

/-- `ADC A,(HL)` (R232). -/
def exec_adc_a_atHL (s : State) : Result := .next (aluOperate .adc (.opd .atHL) s)

/-- `ADC A,A` (R232). -/
def exec_adc_a_a (s : State) : Result := .next (aluOperate .adc (.opd (.reg .a)) s)

/-- `SUB A,B` (R233). -/
def exec_sub_a_b (s : State) : Result := .next (aluOperate .sub (.opd (.reg .b)) s)

/-- `SUB A,C` (R233). -/
def exec_sub_a_c (s : State) : Result := .next (aluOperate .sub (.opd (.reg .c)) s)

/-- `SUB A,D` (R233). -/
def exec_sub_a_d (s : State) : Result := .next (aluOperate .sub (.opd (.reg .d)) s)

/-- `SUB A,E` (R233). -/
def exec_sub_a_e (s : State) : Result := .next (aluOperate .sub (.opd (.reg .e)) s)

/-- `SUB A,H` (R233). -/
def exec_sub_a_h (s : State) : Result := .next (aluOperate .sub (.opd (.reg .h)) s)

/-- `SUB A,L` (R233). -/
def exec_sub_a_l (s : State) : Result := .next (aluOperate .sub (.opd (.reg .l)) s)

/-- `SUB A,(HL)` (R233). -/
def exec_sub_a_atHL (s : State) : Result := .next (aluOperate .sub (.opd .atHL) s)

/-- `SUB A,A` (R233). -/
def exec_sub_a_a (s : State) : Result := .next (aluOperate .sub (.opd (.reg .a)) s)

/-- `SBC A,B` (R234). -/
def exec_sbc_a_b (s : State) : Result := .next (aluOperate .sbc (.opd (.reg .b)) s)

/-- `SBC A,C` (R234). -/
def exec_sbc_a_c (s : State) : Result := .next (aluOperate .sbc (.opd (.reg .c)) s)

/-- `SBC A,D` (R234). -/
def exec_sbc_a_d (s : State) : Result := .next (aluOperate .sbc (.opd (.reg .d)) s)

/-- `SBC A,E` (R234). -/
def exec_sbc_a_e (s : State) : Result := .next (aluOperate .sbc (.opd (.reg .e)) s)

/-- `SBC A,H` (R234). -/
def exec_sbc_a_h (s : State) : Result := .next (aluOperate .sbc (.opd (.reg .h)) s)

/-- `SBC A,L` (R234). -/
def exec_sbc_a_l (s : State) : Result := .next (aluOperate .sbc (.opd (.reg .l)) s)

/-- `SBC A,(HL)` (R234). -/
def exec_sbc_a_atHL (s : State) : Result := .next (aluOperate .sbc (.opd .atHL) s)

/-- `SBC A,A` (R234). -/
def exec_sbc_a_a (s : State) : Result := .next (aluOperate .sbc (.opd (.reg .a)) s)

/-- `AND A,B` (R236). -/
def exec_and_a_b (s : State) : Result := .next (aluOperate .and (.opd (.reg .b)) s)

/-- `AND A,C` (R236). -/
def exec_and_a_c (s : State) : Result := .next (aluOperate .and (.opd (.reg .c)) s)

/-- `AND A,D` (R236). -/
def exec_and_a_d (s : State) : Result := .next (aluOperate .and (.opd (.reg .d)) s)

/-- `AND A,E` (R236). -/
def exec_and_a_e (s : State) : Result := .next (aluOperate .and (.opd (.reg .e)) s)

/-- `AND A,H` (R236). -/
def exec_and_a_h (s : State) : Result := .next (aluOperate .and (.opd (.reg .h)) s)

/-- `AND A,L` (R236). -/
def exec_and_a_l (s : State) : Result := .next (aluOperate .and (.opd (.reg .l)) s)

/-- `AND A,(HL)` (R236). -/
def exec_and_a_atHL (s : State) : Result := .next (aluOperate .and (.opd .atHL) s)

/-- `AND A,A` (R236). -/
def exec_and_a_a (s : State) : Result := .next (aluOperate .and (.opd (.reg .a)) s)

/-- `XOR A,B` (R237). -/
def exec_xor_a_b (s : State) : Result := .next (aluOperate .xor (.opd (.reg .b)) s)

/-- `XOR A,C` (R237). -/
def exec_xor_a_c (s : State) : Result := .next (aluOperate .xor (.opd (.reg .c)) s)

/-- `XOR A,D` (R237). -/
def exec_xor_a_d (s : State) : Result := .next (aluOperate .xor (.opd (.reg .d)) s)

/-- `XOR A,E` (R237). -/
def exec_xor_a_e (s : State) : Result := .next (aluOperate .xor (.opd (.reg .e)) s)

/-- `XOR A,H` (R237). -/
def exec_xor_a_h (s : State) : Result := .next (aluOperate .xor (.opd (.reg .h)) s)

/-- `XOR A,L` (R237). -/
def exec_xor_a_l (s : State) : Result := .next (aluOperate .xor (.opd (.reg .l)) s)

/-- `XOR A,(HL)` (R237). -/
def exec_xor_a_atHL (s : State) : Result := .next (aluOperate .xor (.opd .atHL) s)

/-- `XOR A,A` (R237). -/
def exec_xor_a_a (s : State) : Result := .next (aluOperate .xor (.opd (.reg .a)) s)

/-- `OR A,B` (R238). -/
def exec_or_a_b (s : State) : Result := .next (aluOperate .or (.opd (.reg .b)) s)

/-- `OR A,C` (R238). -/
def exec_or_a_c (s : State) : Result := .next (aluOperate .or (.opd (.reg .c)) s)

/-- `OR A,D` (R238). -/
def exec_or_a_d (s : State) : Result := .next (aluOperate .or (.opd (.reg .d)) s)

/-- `OR A,E` (R238). -/
def exec_or_a_e (s : State) : Result := .next (aluOperate .or (.opd (.reg .e)) s)

/-- `OR A,H` (R238). -/
def exec_or_a_h (s : State) : Result := .next (aluOperate .or (.opd (.reg .h)) s)

/-- `OR A,L` (R238). -/
def exec_or_a_l (s : State) : Result := .next (aluOperate .or (.opd (.reg .l)) s)

/-- `OR A,(HL)` (R238). -/
def exec_or_a_atHL (s : State) : Result := .next (aluOperate .or (.opd .atHL) s)

/-- `OR A,A` (R238). -/
def exec_or_a_a (s : State) : Result := .next (aluOperate .or (.opd (.reg .a)) s)

/-- `CP A,B` (R235). -/
def exec_cp_a_b (s : State) : Result := .next (aluOperate .cp (.opd (.reg .b)) s)

/-- `CP A,C` (R235). -/
def exec_cp_a_c (s : State) : Result := .next (aluOperate .cp (.opd (.reg .c)) s)

/-- `CP A,D` (R235). -/
def exec_cp_a_d (s : State) : Result := .next (aluOperate .cp (.opd (.reg .d)) s)

/-- `CP A,E` (R235). -/
def exec_cp_a_e (s : State) : Result := .next (aluOperate .cp (.opd (.reg .e)) s)

/-- `CP A,H` (R235). -/
def exec_cp_a_h (s : State) : Result := .next (aluOperate .cp (.opd (.reg .h)) s)

/-- `CP A,L` (R235). -/
def exec_cp_a_l (s : State) : Result := .next (aluOperate .cp (.opd (.reg .l)) s)

/-- `CP A,(HL)` (R235). -/
def exec_cp_a_atHL (s : State) : Result := .next (aluOperate .cp (.opd .atHL) s)

/-- `CP A,A` (R235). -/
def exec_cp_a_a (s : State) : Result := .next (aluOperate .cp (.opd (.reg .a)) s)

/-- `ADD A,d8` (R231). -/
def exec_add_a_d8 (d8 : Byte) (s : State) : Result := .next (aluOperate .add (.imm d8) s)

/-- `ADC A,d8` (R232). -/
def exec_adc_a_d8 (d8 : Byte) (s : State) : Result := .next (aluOperate .adc (.imm d8) s)

/-- `SUB A,d8` (R233). -/
def exec_sub_a_d8 (d8 : Byte) (s : State) : Result := .next (aluOperate .sub (.imm d8) s)

/-- `SBC A,d8` (R234). -/
def exec_sbc_a_d8 (d8 : Byte) (s : State) : Result := .next (aluOperate .sbc (.imm d8) s)

/-- `AND A,d8` (R236). -/
def exec_and_a_d8 (d8 : Byte) (s : State) : Result := .next (aluOperate .and (.imm d8) s)

/-- `XOR A,d8` (R237). -/
def exec_xor_a_d8 (d8 : Byte) (s : State) : Result := .next (aluOperate .xor (.imm d8) s)

/-- `OR A,d8` (R238). -/
def exec_or_a_d8 (d8 : Byte) (s : State) : Result := .next (aluOperate .or (.imm d8) s)

/-- `CP A,d8` (R235). -/
def exec_cp_a_d8 (d8 : Byte) (s : State) : Result := .next (aluOperate .cp (.imm d8) s)

end Sys2Proof.Machine
end

