-- ==== Sys2Proof/Machine/CbRotate.lean ====
section
/-! DEFINITION. The rotates and shifts of 47_ext_cb.md (R301 to R308); the step runs them only when `SM83_EXT` is true (R300, log 11). -/

namespace Sys2Proof.Machine

/-- `RLC B` (R301). -/
def exec_rlc_b (s : State) : Result := .next (rotOperand .rlc (.reg .b) s)

/-- `RLC C` (R301). -/
def exec_rlc_c (s : State) : Result := .next (rotOperand .rlc (.reg .c) s)

/-- `RLC D` (R301). -/
def exec_rlc_d (s : State) : Result := .next (rotOperand .rlc (.reg .d) s)

/-- `RLC E` (R301). -/
def exec_rlc_e (s : State) : Result := .next (rotOperand .rlc (.reg .e) s)

/-- `RLC H` (R301). -/
def exec_rlc_h (s : State) : Result := .next (rotOperand .rlc (.reg .h) s)

/-- `RLC L` (R301). -/
def exec_rlc_l (s : State) : Result := .next (rotOperand .rlc (.reg .l) s)

/-- `RLC (HL)` (R301). -/
def exec_rlc_atHL (s : State) : Result := .next (rotOperand .rlc .atHL s)

/-- `RLC A` (R301). -/
def exec_rlc_a (s : State) : Result := .next (rotOperand .rlc (.reg .a) s)

/-- `RRC B` (R302). -/
def exec_rrc_b (s : State) : Result := .next (rotOperand .rrc (.reg .b) s)

/-- `RRC C` (R302). -/
def exec_rrc_c (s : State) : Result := .next (rotOperand .rrc (.reg .c) s)

/-- `RRC D` (R302). -/
def exec_rrc_d (s : State) : Result := .next (rotOperand .rrc (.reg .d) s)

/-- `RRC E` (R302). -/
def exec_rrc_e (s : State) : Result := .next (rotOperand .rrc (.reg .e) s)

/-- `RRC H` (R302). -/
def exec_rrc_h (s : State) : Result := .next (rotOperand .rrc (.reg .h) s)

/-- `RRC L` (R302). -/
def exec_rrc_l (s : State) : Result := .next (rotOperand .rrc (.reg .l) s)

/-- `RRC (HL)` (R302). -/
def exec_rrc_atHL (s : State) : Result := .next (rotOperand .rrc .atHL s)

/-- `RRC A` (R302). -/
def exec_rrc_a (s : State) : Result := .next (rotOperand .rrc (.reg .a) s)

/-- `RL B` (R303). -/
def exec_rl_b (s : State) : Result := .next (rotOperand .rl (.reg .b) s)

/-- `RL C` (R303). -/
def exec_rl_c (s : State) : Result := .next (rotOperand .rl (.reg .c) s)

/-- `RL D` (R303). -/
def exec_rl_d (s : State) : Result := .next (rotOperand .rl (.reg .d) s)

/-- `RL E` (R303). -/
def exec_rl_e (s : State) : Result := .next (rotOperand .rl (.reg .e) s)

/-- `RL H` (R303). -/
def exec_rl_h (s : State) : Result := .next (rotOperand .rl (.reg .h) s)

/-- `RL L` (R303). -/
def exec_rl_l (s : State) : Result := .next (rotOperand .rl (.reg .l) s)

/-- `RL (HL)` (R303). -/
def exec_rl_atHL (s : State) : Result := .next (rotOperand .rl .atHL s)

/-- `RL A` (R303). -/
def exec_rl_a (s : State) : Result := .next (rotOperand .rl (.reg .a) s)

/-- `RR B` (R304). -/
def exec_rr_b (s : State) : Result := .next (rotOperand .rr (.reg .b) s)

/-- `RR C` (R304). -/
def exec_rr_c (s : State) : Result := .next (rotOperand .rr (.reg .c) s)

/-- `RR D` (R304). -/
def exec_rr_d (s : State) : Result := .next (rotOperand .rr (.reg .d) s)

/-- `RR E` (R304). -/
def exec_rr_e (s : State) : Result := .next (rotOperand .rr (.reg .e) s)

/-- `RR H` (R304). -/
def exec_rr_h (s : State) : Result := .next (rotOperand .rr (.reg .h) s)

/-- `RR L` (R304). -/
def exec_rr_l (s : State) : Result := .next (rotOperand .rr (.reg .l) s)

/-- `RR (HL)` (R304). -/
def exec_rr_atHL (s : State) : Result := .next (rotOperand .rr .atHL s)

/-- `RR A` (R304). -/
def exec_rr_a (s : State) : Result := .next (rotOperand .rr (.reg .a) s)

/-- `SLA B` (R305). -/
def exec_sla_b (s : State) : Result := .next (rotOperand .sla (.reg .b) s)

/-- `SLA C` (R305). -/
def exec_sla_c (s : State) : Result := .next (rotOperand .sla (.reg .c) s)

/-- `SLA D` (R305). -/
def exec_sla_d (s : State) : Result := .next (rotOperand .sla (.reg .d) s)

/-- `SLA E` (R305). -/
def exec_sla_e (s : State) : Result := .next (rotOperand .sla (.reg .e) s)

/-- `SLA H` (R305). -/
def exec_sla_h (s : State) : Result := .next (rotOperand .sla (.reg .h) s)

/-- `SLA L` (R305). -/
def exec_sla_l (s : State) : Result := .next (rotOperand .sla (.reg .l) s)

/-- `SLA (HL)` (R305). -/
def exec_sla_atHL (s : State) : Result := .next (rotOperand .sla .atHL s)

/-- `SLA A` (R305). -/
def exec_sla_a (s : State) : Result := .next (rotOperand .sla (.reg .a) s)

/-- `SRA B` (R306). -/
def exec_sra_b (s : State) : Result := .next (rotOperand .sra (.reg .b) s)

/-- `SRA C` (R306). -/
def exec_sra_c (s : State) : Result := .next (rotOperand .sra (.reg .c) s)

/-- `SRA D` (R306). -/
def exec_sra_d (s : State) : Result := .next (rotOperand .sra (.reg .d) s)

/-- `SRA E` (R306). -/
def exec_sra_e (s : State) : Result := .next (rotOperand .sra (.reg .e) s)

/-- `SRA H` (R306). -/
def exec_sra_h (s : State) : Result := .next (rotOperand .sra (.reg .h) s)

/-- `SRA L` (R306). -/
def exec_sra_l (s : State) : Result := .next (rotOperand .sra (.reg .l) s)

/-- `SRA (HL)` (R306). -/
def exec_sra_atHL (s : State) : Result := .next (rotOperand .sra .atHL s)

/-- `SRA A` (R306). -/
def exec_sra_a (s : State) : Result := .next (rotOperand .sra (.reg .a) s)

/-- `SWAP B` (R307). -/
def exec_swap_b (s : State) : Result := .next (rotOperand .swap (.reg .b) s)

/-- `SWAP C` (R307). -/
def exec_swap_c (s : State) : Result := .next (rotOperand .swap (.reg .c) s)

/-- `SWAP D` (R307). -/
def exec_swap_d (s : State) : Result := .next (rotOperand .swap (.reg .d) s)

/-- `SWAP E` (R307). -/
def exec_swap_e (s : State) : Result := .next (rotOperand .swap (.reg .e) s)

/-- `SWAP H` (R307). -/
def exec_swap_h (s : State) : Result := .next (rotOperand .swap (.reg .h) s)

/-- `SWAP L` (R307). -/
def exec_swap_l (s : State) : Result := .next (rotOperand .swap (.reg .l) s)

/-- `SWAP (HL)` (R307). -/
def exec_swap_atHL (s : State) : Result := .next (rotOperand .swap .atHL s)

/-- `SWAP A` (R307). -/
def exec_swap_a (s : State) : Result := .next (rotOperand .swap (.reg .a) s)

/-- `SRL B` (R308). -/
def exec_srl_b (s : State) : Result := .next (rotOperand .srl (.reg .b) s)

/-- `SRL C` (R308). -/
def exec_srl_c (s : State) : Result := .next (rotOperand .srl (.reg .c) s)

/-- `SRL D` (R308). -/
def exec_srl_d (s : State) : Result := .next (rotOperand .srl (.reg .d) s)

/-- `SRL E` (R308). -/
def exec_srl_e (s : State) : Result := .next (rotOperand .srl (.reg .e) s)

/-- `SRL H` (R308). -/
def exec_srl_h (s : State) : Result := .next (rotOperand .srl (.reg .h) s)

/-- `SRL L` (R308). -/
def exec_srl_l (s : State) : Result := .next (rotOperand .srl (.reg .l) s)

/-- `SRL (HL)` (R308). -/
def exec_srl_atHL (s : State) : Result := .next (rotOperand .srl .atHL s)

/-- `SRL A` (R308). -/
def exec_srl_a (s : State) : Result := .next (rotOperand .srl (.reg .a) s)

end Sys2Proof.Machine
end

