-- ==== Sys2Proof/Machine/Control.lean ====
section
/-! DEFINITION. The meanings of 42_control.md (R180 to R186); on entry pc is the advanced pc. -/

namespace Sys2Proof.Machine

/-- `JR e8` (R181). -/
def exec_jr_e8 (e8 : Byte) (s : State) : Result := .next (jumpRelative e8 s)

/-- `JP a16` (R182). -/
def exec_jp_a16 (a16 : Word) (s : State) : Result := .next (s.setPc a16)

/-- `RST 00H` (R186). -/
def exec_rst_00h (s : State) : Result := .next (callTo 0x0000 s)

/-- `RET` (R184). -/
def exec_ret (s : State) : Result := .next (returnFrom s)

/-- `CALL a16` (R183). -/
def exec_call_a16 (a16 : Word) (s : State) : Result := .next (callTo a16 s)

/-- `RST 08H` (R186). -/
def exec_rst_08h (s : State) : Result := .next (callTo 0x0008 s)

/-- `RST 10H` (R186). -/
def exec_rst_10h (s : State) : Result := .next (callTo 0x0010 s)

/-- `RETI` (R185). -/
def exec_reti (s : State) : Result := .next ((returnFrom s).setIme true)

/-- `RST 18H` (R186). -/
def exec_rst_18h (s : State) : Result := .next (callTo 0x0018 s)

/-- `RST 20H` (R186). -/
def exec_rst_20h (s : State) : Result := .next (callTo 0x0020 s)

/-- `RST 28H` (R186). -/
def exec_rst_28h (s : State) : Result := .next (callTo 0x0028 s)

/-- `RST 30H` (R186). -/
def exec_rst_30h (s : State) : Result := .next (callTo 0x0030 s)

/-- `RST 38H` (R186). -/
def exec_rst_38h (s : State) : Result := .next (callTo 0x0038 s)

end Sys2Proof.Machine
end

