-- ==== Sys2Proof/Machine/ExtUnprefixed.lean ====
section
/-! DEFINITION. The meanings of 46_ext_sm83.md (R261 to R276); the step runs them only when `SM83_EXT` is true (R260, log 11). -/

namespace Sys2Proof.Machine

/-- `RLCA` (R261). -/
def exec_rlca (s : State) : Result := .next (rotateA .rlc s)

/-- `ADD HL,BC` (R268). -/
def exec_add_hl_bc (s : State) : Result := .next (addToHL .bc s)

/-- `RRCA` (R262). -/
def exec_rrca (s : State) : Result := .next (rotateA .rrc s)

/-- `RLA` (R263). -/
def exec_rla (s : State) : Result := .next (rotateA .rl s)

/-- `ADD HL,DE` (R268). -/
def exec_add_hl_de (s : State) : Result := .next (addToHL .de s)

/-- `RRA` (R264). -/
def exec_rra (s : State) : Result := .next (rotateA .rr s)

/-- `JR NZ,e8` (R272). -/
def exec_jr_nz_e8 (e8 : Byte) (s : State) : Result := .next (whenCond .nz (jumpRelative e8) s)

/-- `DAA` (R265). -/
def exec_daa (s : State) : Result := .next (decimalAdjust s)

/-- `JR Z,e8` (R272). -/
def exec_jr_z_e8 (e8 : Byte) (s : State) : Result := .next (whenCond .z (jumpRelative e8) s)

/-- `ADD HL,HL` (R268). -/
def exec_add_hl_hl (s : State) : Result := .next (addToHL .hl s)

/-- `JR NC,e8` (R272). -/
def exec_jr_nc_e8 (e8 : Byte) (s : State) : Result := .next (whenCond .nc (jumpRelative e8) s)

/-- `SCF` (R266). -/
def exec_scf (s : State) : Result := .next (setCarry s)

/-- `JR C,e8` (R272). -/
def exec_jr_c_e8 (e8 : Byte) (s : State) : Result := .next (whenCond .c (jumpRelative e8) s)

/-- `ADD HL,SP` (R268). -/
def exec_add_hl_sp (s : State) : Result := .next (addToHL .sp s)

/-- `CCF` (R267). -/
def exec_ccf (s : State) : Result := .next (complementCarry s)

/-- `RET NZ` (R275). -/
def exec_ret_nz (s : State) : Result := .next (whenCond .nz returnFrom s)

/-- `JP NZ,a16` (R273). -/
def exec_jp_nz_a16 (a16 : Word) (s : State) : Result := .next (whenCond .nz (fun t => t.setPc a16) s)

/-- `CALL NZ,a16` (R274). -/
def exec_call_nz_a16 (a16 : Word) (s : State) : Result := .next (whenCond .nz (callTo a16) s)

/-- `RET Z` (R275). -/
def exec_ret_z (s : State) : Result := .next (whenCond .z returnFrom s)

/-- `JP Z,a16` (R273). -/
def exec_jp_z_a16 (a16 : Word) (s : State) : Result := .next (whenCond .z (fun t => t.setPc a16) s)

/-- `CALL Z,a16` (R274). -/
def exec_call_z_a16 (a16 : Word) (s : State) : Result := .next (whenCond .z (callTo a16) s)

/-- `RET NC` (R275). -/
def exec_ret_nc (s : State) : Result := .next (whenCond .nc returnFrom s)

/-- `JP NC,a16` (R273). -/
def exec_jp_nc_a16 (a16 : Word) (s : State) : Result := .next (whenCond .nc (fun t => t.setPc a16) s)

/-- `CALL NC,a16` (R274). -/
def exec_call_nc_a16 (a16 : Word) (s : State) : Result := .next (whenCond .nc (callTo a16) s)

/-- `RET C` (R275). -/
def exec_ret_c (s : State) : Result := .next (whenCond .c returnFrom s)

/-- `JP C,a16` (R273). -/
def exec_jp_c_a16 (a16 : Word) (s : State) : Result := .next (whenCond .c (fun t => t.setPc a16) s)

/-- `CALL C,a16` (R274). -/
def exec_call_c_a16 (a16 : Word) (s : State) : Result := .next (whenCond .c (callTo a16) s)

/-- `ADD SP,e8` (R269). -/
def exec_add_sp_e8 (e8 : Byte) (s : State) : Result := .next (spPlusTo .sp e8 s)

/-- `JP HL` (R276). -/
def exec_jp_hl (s : State) : Result := .next (s.setPc (s.pair .hl))

/-- `LD HL,SP+e8` (R270). -/
def exec_ld_hl_sp_e8 (e8 : Byte) (s : State) : Result := .next (spPlusTo .hl e8 s)

end Sys2Proof.Machine
end

