-- ==== Sys2Proof/Machine/Illegal.lean ====
section
/-! DEFINITION. The meanings of the rows without a descriptor: the illegal bytes (R100, R320) and the escape on its own (R93, R94). Each raises `Fault(Decode)`, which changes the run state and nothing else. -/

namespace Sys2Proof.Machine

/-- The escape byte 0xCB on its own (R94). -/
def exec_prefix_cb (s : State) : Result := .next (raiseFault .decode s)

/-- The illegal byte 0xD3 (R320). -/
def exec_illegal_d3 (s : State) : Result := .next (raiseFault .decode s)

/-- The illegal byte 0xDB (R320). -/
def exec_illegal_db (s : State) : Result := .next (raiseFault .decode s)

/-- The illegal byte 0xDD (R320). -/
def exec_illegal_dd (s : State) : Result := .next (raiseFault .decode s)

/-- The illegal byte 0xE3 (R320). -/
def exec_illegal_e3 (s : State) : Result := .next (raiseFault .decode s)

/-- The illegal byte 0xE4 (R320). -/
def exec_illegal_e4 (s : State) : Result := .next (raiseFault .decode s)

/-- The illegal byte 0xEB (R320). -/
def exec_illegal_eb (s : State) : Result := .next (raiseFault .decode s)

/-- The illegal byte 0xEC (R320). -/
def exec_illegal_ec (s : State) : Result := .next (raiseFault .decode s)

/-- The illegal byte 0xED (R320). -/
def exec_illegal_ed (s : State) : Result := .next (raiseFault .decode s)

/-- The illegal byte 0xF4 (R320). -/
def exec_illegal_f4 (s : State) : Result := .next (raiseFault .decode s)

/-- The illegal byte 0xFC (R320). -/
def exec_illegal_fc (s : State) : Result := .next (raiseFault .decode s)

/-- The illegal byte 0xFD (R320). -/
def exec_illegal_fd (s : State) : Result := .next (raiseFault .decode s)

end Sys2Proof.Machine
end

