-- ==== Sys2Proof/Machine/IncDec.lean ====
section
/-! DEFINITION. The meanings of 41_incdec.md (R160 to R166). -/

namespace Sys2Proof.Machine

/-- `INC BC` (R165). -/
def exec_inc_bc (s : State) : Result := .next (incPair .bc s)

/-- `INC B` (R161). -/
def exec_inc_b (s : State) : Result := .next (incOperand (.reg .b) s)

/-- `DEC B` (R162). -/
def exec_dec_b (s : State) : Result := .next (decOperand (.reg .b) s)

/-- `DEC BC` (R166). -/
def exec_dec_bc (s : State) : Result := .next (decPair .bc s)

/-- `INC C` (R161). -/
def exec_inc_c (s : State) : Result := .next (incOperand (.reg .c) s)

/-- `DEC C` (R162). -/
def exec_dec_c (s : State) : Result := .next (decOperand (.reg .c) s)

/-- `INC DE` (R165). -/
def exec_inc_de (s : State) : Result := .next (incPair .de s)

/-- `INC D` (R161). -/
def exec_inc_d (s : State) : Result := .next (incOperand (.reg .d) s)

/-- `DEC D` (R162). -/
def exec_dec_d (s : State) : Result := .next (decOperand (.reg .d) s)

/-- `DEC DE` (R166). -/
def exec_dec_de (s : State) : Result := .next (decPair .de s)

/-- `INC E` (R161). -/
def exec_inc_e (s : State) : Result := .next (incOperand (.reg .e) s)

/-- `DEC E` (R162). -/
def exec_dec_e (s : State) : Result := .next (decOperand (.reg .e) s)

/-- `INC HL` (R165). -/
def exec_inc_hl (s : State) : Result := .next (incPair .hl s)

/-- `INC H` (R161). -/
def exec_inc_h (s : State) : Result := .next (incOperand (.reg .h) s)

/-- `DEC H` (R162). -/
def exec_dec_h (s : State) : Result := .next (decOperand (.reg .h) s)

/-- `DEC HL` (R166). -/
def exec_dec_hl (s : State) : Result := .next (decPair .hl s)

/-- `INC L` (R161). -/
def exec_inc_l (s : State) : Result := .next (incOperand (.reg .l) s)

/-- `DEC L` (R162). -/
def exec_dec_l (s : State) : Result := .next (decOperand (.reg .l) s)

/-- `INC SP` (R165). -/
def exec_inc_sp (s : State) : Result := .next (incPair .sp s)

/-- `INC (HL)` (R163). -/
def exec_inc_atHL (s : State) : Result := .next (incOperand .atHL s)

/-- `DEC (HL)` (R164). -/
def exec_dec_atHL (s : State) : Result := .next (decOperand .atHL s)

/-- `DEC SP` (R166). -/
def exec_dec_sp (s : State) : Result := .next (decPair .sp s)

/-- `INC A` (R161). -/
def exec_inc_a (s : State) : Result := .next (incOperand (.reg .a) s)

/-- `DEC A` (R162). -/
def exec_dec_a (s : State) : Result := .next (decOperand (.reg .a) s)

end Sys2Proof.Machine
end

