-- ==== Sys2Proof/Machine/Load.lean ====
section
/-! DEFINITION. The meanings of 40_loads.md (R120 to R142): none reads or writes a flag. -/

namespace Sys2Proof.Machine

/-- `LD BC,d16` (R123). -/
def exec_ld_bc_d16 (d16 : Word) (s : State) : Result := .next (s.setPair .bc d16)

/-- `LD (BC),A` (R129). -/
def exec_ld_atBC_a (s : State) : Result := .next (storeTo (s.pair .bc) .a s)

/-- `LD B,d8` (R122). -/
def exec_ld_b_d8 (d8 : Byte) (s : State) : Result := .next (s.setReg .b d8)

/-- `LD (a16),SP` (R137). -/
def exec_ld_a16_sp (a16 : Word) (s : State) : Result := .next (s.writeWord a16 s.sp)

/-- `LD A,(BC)` (R127). -/
def exec_ld_a_atBC (s : State) : Result := .next (loadFrom .a (s.pair .bc) s)

/-- `LD C,d8` (R122). -/
def exec_ld_c_d8 (d8 : Byte) (s : State) : Result := .next (s.setReg .c d8)

/-- `LD DE,d16` (R123). -/
def exec_ld_de_d16 (d16 : Word) (s : State) : Result := .next (s.setPair .de d16)

/-- `LD (DE),A` (R130). -/
def exec_ld_atDE_a (s : State) : Result := .next (storeTo (s.pair .de) .a s)

/-- `LD D,d8` (R122). -/
def exec_ld_d_d8 (d8 : Byte) (s : State) : Result := .next (s.setReg .d d8)

/-- `LD A,(DE)` (R128). -/
def exec_ld_a_atDE (s : State) : Result := .next (loadFrom .a (s.pair .de) s)

/-- `LD E,d8` (R122). -/
def exec_ld_e_d8 (d8 : Byte) (s : State) : Result := .next (s.setReg .e d8)

/-- `LD HL,d16` (R123). -/
def exec_ld_hl_d16 (d16 : Word) (s : State) : Result := .next (s.setPair .hl d16)

/-- `LD (HL+),A` (R133). -/
def exec_ld_atHLinc_a (s : State) : Result := .next (storeAMoveHL 1 s)

/-- `LD H,d8` (R122). -/
def exec_ld_h_d8 (d8 : Byte) (s : State) : Result := .next (s.setReg .h d8)

/-- `LD A,(HL+)` (R135). -/
def exec_ld_a_atHLinc (s : State) : Result := .next (loadAMoveHL 1 s)

/-- `LD L,d8` (R122). -/
def exec_ld_l_d8 (d8 : Byte) (s : State) : Result := .next (s.setReg .l d8)

/-- `LD SP,d16` (R123). -/
def exec_ld_sp_d16 (d16 : Word) (s : State) : Result := .next (s.setPair .sp d16)

/-- `LD (HL-),A` (R134). -/
def exec_ld_atHLdec_a (s : State) : Result := .next (storeAMoveHL (-1) s)

/-- `LD (HL),d8` (R126). -/
def exec_ld_atHL_d8 (d8 : Byte) (s : State) : Result := .next (s.write (s.pair .hl) d8)

/-- `LD A,(HL-)` (R136). -/
def exec_ld_a_atHLdec (s : State) : Result := .next (loadAMoveHL (-1) s)

/-- `LD A,d8` (R122). -/
def exec_ld_a_d8 (d8 : Byte) (s : State) : Result := .next (s.setReg .a d8)

/-- `LD B,B` (R121). -/
def exec_ld_b_b (s : State) : Result := .next (copyReg .b .b s)

/-- `LD B,C` (R121). -/
def exec_ld_b_c (s : State) : Result := .next (copyReg .b .c s)

/-- `LD B,D` (R121). -/
def exec_ld_b_d (s : State) : Result := .next (copyReg .b .d s)

/-- `LD B,E` (R121). -/
def exec_ld_b_e (s : State) : Result := .next (copyReg .b .e s)

/-- `LD B,H` (R121). -/
def exec_ld_b_h (s : State) : Result := .next (copyReg .b .h s)

/-- `LD B,L` (R121). -/
def exec_ld_b_l (s : State) : Result := .next (copyReg .b .l s)

/-- `LD B,(HL)` (R124). -/
def exec_ld_b_atHL (s : State) : Result := .next (loadFrom .b (s.pair .hl) s)

/-- `LD B,A` (R121). -/
def exec_ld_b_a (s : State) : Result := .next (copyReg .b .a s)

/-- `LD C,B` (R121). -/
def exec_ld_c_b (s : State) : Result := .next (copyReg .c .b s)

/-- `LD C,C` (R121). -/
def exec_ld_c_c (s : State) : Result := .next (copyReg .c .c s)

/-- `LD C,D` (R121). -/
def exec_ld_c_d (s : State) : Result := .next (copyReg .c .d s)

/-- `LD C,E` (R121). -/
def exec_ld_c_e (s : State) : Result := .next (copyReg .c .e s)

/-- `LD C,H` (R121). -/
def exec_ld_c_h (s : State) : Result := .next (copyReg .c .h s)

/-- `LD C,L` (R121). -/
def exec_ld_c_l (s : State) : Result := .next (copyReg .c .l s)

/-- `LD C,(HL)` (R124). -/
def exec_ld_c_atHL (s : State) : Result := .next (loadFrom .c (s.pair .hl) s)

/-- `LD C,A` (R121). -/
def exec_ld_c_a (s : State) : Result := .next (copyReg .c .a s)

/-- `LD D,B` (R121). -/
def exec_ld_d_b (s : State) : Result := .next (copyReg .d .b s)

/-- `LD D,C` (R121). -/
def exec_ld_d_c (s : State) : Result := .next (copyReg .d .c s)

/-- `LD D,D` (R121). -/
def exec_ld_d_d (s : State) : Result := .next (copyReg .d .d s)

/-- `LD D,E` (R121). -/
def exec_ld_d_e (s : State) : Result := .next (copyReg .d .e s)

/-- `LD D,H` (R121). -/
def exec_ld_d_h (s : State) : Result := .next (copyReg .d .h s)

/-- `LD D,L` (R121). -/
def exec_ld_d_l (s : State) : Result := .next (copyReg .d .l s)

/-- `LD D,(HL)` (R124). -/
def exec_ld_d_atHL (s : State) : Result := .next (loadFrom .d (s.pair .hl) s)

/-- `LD D,A` (R121). -/
def exec_ld_d_a (s : State) : Result := .next (copyReg .d .a s)

/-- `LD E,B` (R121). -/
def exec_ld_e_b (s : State) : Result := .next (copyReg .e .b s)

/-- `LD E,C` (R121). -/
def exec_ld_e_c (s : State) : Result := .next (copyReg .e .c s)

/-- `LD E,D` (R121). -/
def exec_ld_e_d (s : State) : Result := .next (copyReg .e .d s)

/-- `LD E,E` (R121). -/
def exec_ld_e_e (s : State) : Result := .next (copyReg .e .e s)

/-- `LD E,H` (R121). -/
def exec_ld_e_h (s : State) : Result := .next (copyReg .e .h s)

/-- `LD E,L` (R121). -/
def exec_ld_e_l (s : State) : Result := .next (copyReg .e .l s)

/-- `LD E,(HL)` (R124). -/
def exec_ld_e_atHL (s : State) : Result := .next (loadFrom .e (s.pair .hl) s)

/-- `LD E,A` (R121). -/
def exec_ld_e_a (s : State) : Result := .next (copyReg .e .a s)

/-- `LD H,B` (R121). -/
def exec_ld_h_b (s : State) : Result := .next (copyReg .h .b s)

/-- `LD H,C` (R121). -/
def exec_ld_h_c (s : State) : Result := .next (copyReg .h .c s)

/-- `LD H,D` (R121). -/
def exec_ld_h_d (s : State) : Result := .next (copyReg .h .d s)

/-- `LD H,E` (R121). -/
def exec_ld_h_e (s : State) : Result := .next (copyReg .h .e s)

/-- `LD H,H` (R121). -/
def exec_ld_h_h (s : State) : Result := .next (copyReg .h .h s)

/-- `LD H,L` (R121). -/
def exec_ld_h_l (s : State) : Result := .next (copyReg .h .l s)

/-- `LD H,(HL)` (R124). -/
def exec_ld_h_atHL (s : State) : Result := .next (loadFrom .h (s.pair .hl) s)

/-- `LD H,A` (R121). -/
def exec_ld_h_a (s : State) : Result := .next (copyReg .h .a s)

/-- `LD L,B` (R121). -/
def exec_ld_l_b (s : State) : Result := .next (copyReg .l .b s)

/-- `LD L,C` (R121). -/
def exec_ld_l_c (s : State) : Result := .next (copyReg .l .c s)

/-- `LD L,D` (R121). -/
def exec_ld_l_d (s : State) : Result := .next (copyReg .l .d s)

/-- `LD L,E` (R121). -/
def exec_ld_l_e (s : State) : Result := .next (copyReg .l .e s)

/-- `LD L,H` (R121). -/
def exec_ld_l_h (s : State) : Result := .next (copyReg .l .h s)

/-- `LD L,L` (R121). -/
def exec_ld_l_l (s : State) : Result := .next (copyReg .l .l s)

/-- `LD L,(HL)` (R124). -/
def exec_ld_l_atHL (s : State) : Result := .next (loadFrom .l (s.pair .hl) s)

/-- `LD L,A` (R121). -/
def exec_ld_l_a (s : State) : Result := .next (copyReg .l .a s)

/-- `LD (HL),B` (R125). -/
def exec_ld_atHL_b (s : State) : Result := .next (storeTo (s.pair .hl) .b s)

/-- `LD (HL),C` (R125). -/
def exec_ld_atHL_c (s : State) : Result := .next (storeTo (s.pair .hl) .c s)

/-- `LD (HL),D` (R125). -/
def exec_ld_atHL_d (s : State) : Result := .next (storeTo (s.pair .hl) .d s)

/-- `LD (HL),E` (R125). -/
def exec_ld_atHL_e (s : State) : Result := .next (storeTo (s.pair .hl) .e s)

/-- `LD (HL),H` (R125). -/
def exec_ld_atHL_h (s : State) : Result := .next (storeTo (s.pair .hl) .h s)

/-- `LD (HL),L` (R125). -/
def exec_ld_atHL_l (s : State) : Result := .next (storeTo (s.pair .hl) .l s)

/-- `LD (HL),A` (R125). -/
def exec_ld_atHL_a (s : State) : Result := .next (storeTo (s.pair .hl) .a s)

/-- `LD A,B` (R121). -/
def exec_ld_a_b (s : State) : Result := .next (copyReg .a .b s)

/-- `LD A,C` (R121). -/
def exec_ld_a_c (s : State) : Result := .next (copyReg .a .c s)

/-- `LD A,D` (R121). -/
def exec_ld_a_d (s : State) : Result := .next (copyReg .a .d s)

/-- `LD A,E` (R121). -/
def exec_ld_a_e (s : State) : Result := .next (copyReg .a .e s)

/-- `LD A,H` (R121). -/
def exec_ld_a_h (s : State) : Result := .next (copyReg .a .h s)

/-- `LD A,L` (R121). -/
def exec_ld_a_l (s : State) : Result := .next (copyReg .a .l s)

/-- `LD A,(HL)` (R124). -/
def exec_ld_a_atHL (s : State) : Result := .next (loadFrom .a (s.pair .hl) s)

/-- `LD A,A` (R121). -/
def exec_ld_a_a (s : State) : Result := .next (copyReg .a .a s)

/-- `LDH (a8),A` (R139). -/
def exec_ldh_a8_a (a8 : Byte) (s : State) : Result := .next (storeTo (ioAddr a8) .a s)

/-- `LD (C),A` (R141). -/
def exec_ld_atC_a (s : State) : Result := .next (storeTo (ioAddr s.c) .a s)

/-- `LD (a16),A` (R132). -/
def exec_ld_a16_a (a16 : Word) (s : State) : Result := .next (storeTo a16 .a s)

/-- `LDH A,(a8)` (R140). -/
def exec_ldh_a_a8 (a8 : Byte) (s : State) : Result := .next (loadFrom .a (ioAddr a8) s)

/-- `LD A,(C)` (R142). -/
def exec_ld_a_atC (s : State) : Result := .next (loadFrom .a (ioAddr s.c) s)

/-- `LD SP,HL` (R138). -/
def exec_ld_sp_hl (s : State) : Result := .next (s.setPair .sp (s.pair .hl))

/-- `LD A,(a16)` (R131). -/
def exec_ld_a_a16 (a16 : Word) (s : State) : Result := .next (loadFrom .a a16 s)

end Sys2Proof.Machine
end

