-- ==== Sys2Proof/Machine/Stack.lean ====
section
/-! DEFINITION. The meanings of 43_stack.md (R202, R203). -/

namespace Sys2Proof.Machine

/-- `POP BC` (R203). -/
def exec_pop_bc (s : State) : Result := .next (popPair .bc s)

/-- `PUSH BC` (R202). -/
def exec_push_bc (s : State) : Result := .next (pushPair .bc s)

/-- `POP DE` (R203). -/
def exec_pop_de (s : State) : Result := .next (popPair .de s)

/-- `PUSH DE` (R202). -/
def exec_push_de (s : State) : Result := .next (pushPair .de s)

/-- `POP HL` (R203). -/
def exec_pop_hl (s : State) : Result := .next (popPair .hl s)

/-- `PUSH HL` (R202). -/
def exec_push_hl (s : State) : Result := .next (pushPair .hl s)

/-- `POP AF` (R203). -/
def exec_pop_af (s : State) : Result := .next (popPair .af s)

/-- `PUSH AF` (R202). -/
def exec_push_af (s : State) : Result := .next (pushPair .af s)

end Sys2Proof.Machine
end

