-- ==== Sys2Proof/Machine/System.lean ====
section
/-! DEFINITION. The meanings of 44_system.md (R210 to R214). -/

namespace Sys2Proof.Machine

/-- `NOP` (R210). -/
def exec_nop (s : State) : Result := .next s

/-- `STOP` (R214). -/
def exec_stop (_ignored : Byte) (s : State) : Result := .next (haltWith .stop s)

/-- `HALT` (R213). -/
def exec_halt (s : State) : Result := .next (haltWith .halt s)

/-- `DI` (R212). -/
def exec_di (s : State) : Result := .next (s.setIme false)

/-- `EI` (R211). -/
def exec_ei (s : State) : Result := .next (s.setIme true)

end Sys2Proof.Machine
end

