-- ==== Sys2Proof/Machine/Ppu.lean ====
section
/-! DEFINITION. The PPU timing engine: tick, start and stop (R340, R345, R346), the frame points (R343), the frame hand-off to
the display (R350), and the event poll (R352, R354). -/

namespace Sys2Proof.Machine

/-- The state change of one tick, without the frame: the counter is tested before it is incremented (R340, C2). -/
def Ppu.tick (p : Ppu) : Ppu :=
  match p.mode with
  | .off => p
  | .oamSearch => if p.dot = 19 then { p with mode := .draw, dot := 0 } else { p with dot := p.dot + 1 }
  | .draw => if p.dot = 62 then { p with mode := .hblank, dot := 0 } else { p with dot := p.dot + 1 }
  | .hblank =>
    if p.dot = 113 then { mode := if p.ly = 143 then .vblank else .draw, ly := p.ly + 1, dot := 0 }
    else { p with dot := p.dot + 1 }
  | .vblank =>
    if p.dot = 113 then
      (if p.ly = 153 then { mode := .oamSearch, ly := 0, dot := 0 } else { p with ly := p.ly + 1, dot := 0 })
    else { p with dot := p.dot + 1 }

/-- `start()` without its frame (R345). -/
def Ppu.start (_p : Ppu) : Ppu := { mode := .oamSearch, ly := 0, dot := 0 }

/-- `stop()` (R346). -/
def Ppu.stop (p : Ppu) : Ppu := { p with mode := .off }

/-- Does the tick made in this state match `FRAME_POINT` (R343)? -/
def framePointHit (fp : FramePoint) (p : Ppu) : Bool :=
  match fp with
  | .line0HblankEnd => decide (p = { mode := .hblank, ly := 0, dot := 113 })
  | .vblankExit => decide (p = { mode := .vblank, ly := 153, dot := 113 })

/-- The host's answer: an exhausted list answers "open" (R354, log 5). -/
def State.hostAnswer (s : State) : Bool := s.hostAnswers.headD true

/-- The host may close the display here; a closed display stays closed (R46, R354). -/
def askHost (s : State) : State :=
  { s with displayOpen := s.displayOpen && s.hostAnswer, hostAnswers := s.hostAnswers.tail }

/-- The byte the PPU's rendering may read: it reads memory as client PPU (R61, R65, R350). -/
def ppuRead (s : State) (a : Word) : Byte := s.busRead .ppu a

/-- The buffer handed over at the `n`-th frame: width × height × 3 bytes of unconstrained content (R350, log 12). -/
def frameBuffer (cfg : Config) (n : Nat) : List Byte :=
  (List.range (cfg.displayWidth * cfg.displayHeight * 3)).map (Config.framePixel n)

/-- Produce a frame: hand it to the display, and `stop()` if the display reports that it is closed (R350). -/
def produceFrame (s : State) : State :=
  let t := askHost { s with frames := s.frames + 1 }
  if t.displayOpen then t else { t with ppu := t.ppu.stop }

/-- `tick()` (R340): the state change, then the frame of a matching tick (R343). -/
def ppuTick (s : State) : State :=
  let t := { s with ppu := s.ppu.tick }
  if framePointHit s.cfg.framePoint s.ppu then produceFrame t else t

/-- `n` ticks. -/
def ppuTicks : Nat → State → State
  | 0, s => s
  | n + 1, s => ppuTicks n (ppuTick s)

/-- `start()`: OAMSearch, ly 0, dot 0, and a frame (R345). -/
def ppuStart (s : State) : State := produceFrame { s with ppu := s.ppu.start }

/-- `poll_events()`: the host may close the display (R352, R354). -/
def pollEvents (s : State) : State := askHost s

end Sys2Proof.Machine
end

