-- ==== Sys2Proof/Machine/Driver.lean ====
section
/-! DEFINITION. Fetch and the CPU step `process` (R94 to R97, R323), the costs (R351, R388), the trace (R356), one iteration of
the driver loop (R352), and the reset sequence `launch` (R380). -/

namespace Sys2Proof.Machine

/-! ### The CPU step -/

/-- The instruction at pc: its bytes are those at pc, pc + 1 and pc + 2, each address mod 2^16 (R94, R95, log 15). -/
def fetch (s : State) : Instr := decodeAt (s.read s.pc) (s.read (s.pc + 1)) (s.read (s.pc + 2))

/-- The descriptor of the instruction at pc in this machine instance (R93, R94). -/
def fetchedDescriptor (s : State) : Option Descriptor := (fetch s).descriptor? s.cfg.sm83Ext

/-- `process` (R94 to R97): a terminal run state changes nothing (R323); without a descriptor the step raises `Fault(Decode)`
and pc stays (R320); otherwise pc advances by the length and the instruction takes its effect. -/
def process (s : State) : Result :=
  match s.runState with
  | .running =>
    match fetchedDescriptor s with
    | none => .next (raiseFault .decode s)
    | some d => exec (fetch s) (s.advancePc d.length)
  | .halted _ => .next s
  | .faulted _ => .next s

/-! ### Costs -/

/-- Is the fetched instruction a conditional one that is taken (R271, R351)? -/
def fetchedTaken (s : State) : Bool :=
  match (fetch s).row.cond with
  | some cc => condHolds cc s.flags
  | none => false

/-- The entry of a cost table for a key and a branch outcome. -/
def costEntry : List Cost → Nat → Bool → Option Nat
  | [], _, _ => none
  | e :: es, key, taken => if e.key = key ∧ e.taken = taken then some e.cost else costEntry es key taken

/-- The `cycles` column of the table (R388): a conditional instruction costs less when it is not taken. -/
def tableCycles (row : TableRow) (taken : Bool) : Nat :=
  match row.descr, row.cond with
  | some d, some _ => if taken then d.cycles else d.cyclesNotTaken
  | some d, none => d.cycles
  | none, _ => 0

/-- `CYCLES(d, taken)` (R7, R388). -/
def cyclesOf (cfg : Config) (row : TableRow) (taken : Bool) : Nat :=
  (costEntry cfg.cycles row.key taken).getD (tableCycles row taken)

/-- `PPU_TICKS(d, taken)` (R7, R351): the parameter's entry, or the suggested `CYCLES(d, taken) / 4` (D26, log 4). -/
def ppuTicksOf (cfg : Config) (row : TableRow) (taken : Bool) : Nat :=
  (costEntry cfg.ppuTicks row.key taken).getD (cyclesOf cfg row taken / 4)

/-- How many ticks the driver runs after the CPU step made in this state: none when no descriptor was found (R351). -/
def ticksAfter (s : State) : Nat :=
  match fetchedDescriptor s with
  | none => 0
  | some _ => ppuTicksOf s.cfg (fetch s).row (fetchedTaken s)

/-- The trace line of the CPU step made in this state: one per step that finds a descriptor (R356). -/
def traceOf (s : State) : Option TraceLine :=
  match fetchedDescriptor s with
  | none => none
  | some d =>
    some { pc := s.pc, name := d.name, cycles := cyclesOf s.cfg (fetch s).row (fetchedTaken s)
           operands := (fetch s).row.operands }

/-! ### The driver loop -/

/-- What the driver does after a CPU step that led from `s` to `t`: the PPU ticks, then the event poll (R352). -/
def afterCpuStep (s t : State) : State :=
  pollEvents (ppuTicks (ticksAfter s) { t with lastTrace := traceOf s })

/-- One iteration of the driver loop (R352). -/
def loopIteration (s : State) : Result :=
  match process s with
  | .next t => .next (afterCpuStep s t)
  | .fault r => .fault r
  | .refused r => .refused r

/-- Has the run ended (R353)? The run state is terminal, or the display is closed. -/
def runEnded (s : State) : Bool :=
  match s.runState with
  | .running => !s.displayOpen
  | .halted _ => true
  | .faulted _ => true

/-- One step of the whole machine: a loop iteration, or nothing once the run has ended (R352, R353, log 6). -/
def driverStep (s : State) : Result := if runEnded s then .next s else loopIteration s

/-! ### Launch -/

/-- The state of the reset sequence just before `ppu.start()` (R380). -/
def powerOn (cfg : Config) (image : List Byte) (answers : List Bool) : State :=
  { a := cfg.initRegs.a, flags := cfg.initRegs.f, b := cfg.initRegs.b, c := cfg.initRegs.c, d := cfg.initRegs.d
    e := cfg.initRegs.e, h := cfg.initRegs.h, l := cfg.initRegs.l, sp := cfg.initRegs.sp, pc := cfg.resetPc
    ime := false, runState := .running, mem := Memory.ofImage image, ppu := { mode := .off, ly := 0, dot := 0 }
    displayOpen := true, cfg := cfg, hostAnswers := answers, frames := 0, lastTrace := none }

/-- The reset sequence (R380) for these parameters, this image and these answers of the host: an image longer than `IMAGE_MAX`
is refused. -/
def launch (cfg : Config) (image : List Byte) (answers : List Bool) : Result :=
  if image.length > cfg.imageMax then .refused .imageTooLarge
  else .next (ppuStart (powerOn cfg image answers))

/-! ### Placing an instruction -/

/-- Store bytes at an address and the addresses after it, mod 2^16. -/
def storeBytes : Word → List Byte → State → State
  | _, [], s => s
  | a, v :: bs, s => storeBytes (a + 1) bs (s.write a v)

/-- Does the word name a row of the extension layer? -/
def isExtWord (nbits w : Nat) : Bool :=
  match decodeTableWord nbits w with
  | some i => decide (i.row.layer = .ext)
  | none => false

/-- The state with the word's bytes, and zeros up to three bytes, at pc, and with what the next step needs to run it: the run
going on, and `SM83_EXT` true for a row of the extension layer (log 10). -/
def placeWord (s : State) (nbits w : Nat) : State :=
  storeBytes s.pc ((wordBytes nbits w ++ [0, 0, 0]).take 3)
    { s with runState := .running, displayOpen := true
             cfg := { s.cfg with sm83Ext := s.cfg.sm83Ext || isExtWord nbits w } }

end Sys2Proof.Machine
end

