-- ==== Sys2Proof/Machine/Step.lean ====
section
/-! DEFINITION. One step of the machine, and the placing of an instruction where the next step fetches it. -/

namespace Sys2Proof.Machine

/-- One step: an iteration of the driver loop, the CPU step first, then its PPU ticks, then the event poll (R352). -/
def step (s : State) : Host.Outcome State Fault Refusal := driverStep s

/-- The state with the instruction of the word `w` placed where the next step fetches (log 10). -/
def State.withFetchWord (s : State) (nbits w : Nat) : State := placeWord s nbits w

end Sys2Proof.Machine
end

