-- ==== Sys2Proof/Machine/Footprint.lean ====
section
/-! DEFINITION. What the spec lets each instruction write: the frame statements are about this table. A row follows the pseudocode
and the "Flags written" line of the instruction's rule (files 40 to 47), the table of R36 and the access table of R71. -/

namespace Sys2Proof.Machine

/-- What an instruction may write, in the state its effect starts from: 8-bit registers, SP, the flags (true: may be written), pc
beyond the advance of R96, IME, the run state, and the addresses of the bytes it stores. Nothing else of the state. -/
structure Footprint where
  regs   : List Reg8
  sp     : Bool
  flags  : Flags
  pc     : Bool
  ime    : Bool
  run    : Bool
  stores : List Word
  deriving DecidableEq, Repr

/-- Nothing is written. -/
def Footprint.empty : Footprint := ⟨[], false, ⟨false, false, false, false⟩, false, false, false, []⟩

/-- 8-bit registers only. -/
def Footprint.ofRegs (rs : List Reg8) : Footprint := { Footprint.empty with regs := rs }

/-- A pair, or SP (R33, R38). -/
def Footprint.pair : Pair → Footprint
  | .bc => .ofRegs [.b, .c]
  | .de => .ofRegs [.d, .e]
  | .hl => .ofRegs [.h, .l]
  | .sp => { Footprint.empty with sp := true }

/-- Bytes of memory only. -/
def Footprint.store (as : List Word) : Footprint := { Footprint.empty with stores := as }

/-- Bytes of memory and 8-bit registers. -/
def Footprint.storeAndRegs (as : List Word) (rs : List Reg8) : Footprint := { Footprint.ofRegs rs with stores := as }

/-- Flags besides. -/
def Footprint.withFlags (fp : Footprint) (fl : Flags) : Footprint := { fp with flags := fl }

/-- IME besides. -/
def Footprint.withIme (fp : Footprint) : Footprint := { fp with ime := true }

/-- IME only (R211, R212). -/
def Footprint.imeOnly : Footprint := Footprint.empty.withIme

/-- The run state only (R215, R321). -/
def Footprint.runOnly : Footprint := { Footprint.empty with run := true }

/-- pc only (R182). -/
def Footprint.jump : Footprint := { Footprint.empty with pc := true }

/-- pc, or the run state where the target is out of range (R181). -/
def Footprint.jumpRel : Footprint := { Footprint.empty with pc := true, run := true }

/-- `Push`: SP, and the two bytes at the new SP (R200). -/
def Footprint.push (s : State) : Footprint := { Footprint.store [s.sp - 2, s.sp - 2 + 1] with sp := true }

/-- A call: a push and pc (R183). -/
def Footprint.call (s : State) : Footprint := { Footprint.push s with pc := true }

/-- `Pop` into 8-bit registers (R201, R203). -/
def Footprint.popTo (rs : List Reg8) : Footprint := { Footprint.ofRegs rs with sp := true }

/-- A return: `Pop` into pc (R184). -/
def Footprint.ret : Footprint := { Footprint.popTo [] with pc := true }

/-- A conditional instruction writes nothing when it is not taken (R271). -/
def Footprint.when (taken : Bool) (fp : Footprint) : Footprint := if taken then fp else .empty

/-- The flags the 8-bit increments and decrements write (R160). -/
def incDecFlagsWritten : IncDecFlags → Flags
  | .unchanged => ⟨false, false, false, false⟩
  | .sm83 => ⟨true, true, true, false⟩

/-- The footprint of each instruction. -/
def footprint (i : Instr) (s : State) : Footprint :=
  match i with
  | .nop => .empty
  | .ld_bc_d16 _ => .pair .bc
  | .ld_atBC_a => .store [s.pair .bc]
  | .inc_bc => .pair .bc
  | .inc_b => .withFlags (.ofRegs [.b]) (incDecFlagsWritten s.cfg.incdecFlags)
  | .dec_b => .withFlags (.ofRegs [.b]) (incDecFlagsWritten s.cfg.incdecFlags)
  | .ld_b_d8 _ => .ofRegs [.b]
  | .rlca => .withFlags (.ofRegs [.a]) ⟨true, true, true, true⟩
  | .ld_a16_sp a16 => .store [a16, a16 + 1]
  | .add_hl_bc => .withFlags (.pair .hl) ⟨false, true, true, true⟩
  | .ld_a_atBC => .ofRegs [.a]
  | .dec_bc => .pair .bc
  | .inc_c => .withFlags (.ofRegs [.c]) (incDecFlagsWritten s.cfg.incdecFlags)
  | .dec_c => .withFlags (.ofRegs [.c]) (incDecFlagsWritten s.cfg.incdecFlags)
  | .ld_c_d8 _ => .ofRegs [.c]
  | .rrca => .withFlags (.ofRegs [.a]) ⟨true, true, true, true⟩
  | .stop _ => .runOnly
  | .ld_de_d16 _ => .pair .de
  | .ld_atDE_a => .store [s.pair .de]
  | .inc_de => .pair .de
  | .inc_d => .withFlags (.ofRegs [.d]) (incDecFlagsWritten s.cfg.incdecFlags)
  | .dec_d => .withFlags (.ofRegs [.d]) (incDecFlagsWritten s.cfg.incdecFlags)
  | .ld_d_d8 _ => .ofRegs [.d]
  | .rla => .withFlags (.ofRegs [.a]) ⟨true, true, true, true⟩
  | .jr_e8 _ => .jumpRel
  | .add_hl_de => .withFlags (.pair .hl) ⟨false, true, true, true⟩
  | .ld_a_atDE => .ofRegs [.a]
  | .dec_de => .pair .de
  | .inc_e => .withFlags (.ofRegs [.e]) (incDecFlagsWritten s.cfg.incdecFlags)
  | .dec_e => .withFlags (.ofRegs [.e]) (incDecFlagsWritten s.cfg.incdecFlags)
  | .ld_e_d8 _ => .ofRegs [.e]
  | .rra => .withFlags (.ofRegs [.a]) ⟨true, true, true, true⟩
  | .jr_nz_e8 _ => .when (condHolds .nz s.flags) .jumpRel
  | .ld_hl_d16 _ => .pair .hl
  | .ld_atHLinc_a => .storeAndRegs [s.pair .hl] [.h, .l]
  | .inc_hl => .pair .hl
  | .inc_h => .withFlags (.ofRegs [.h]) (incDecFlagsWritten s.cfg.incdecFlags)
  | .dec_h => .withFlags (.ofRegs [.h]) (incDecFlagsWritten s.cfg.incdecFlags)
  | .ld_h_d8 _ => .ofRegs [.h]
  | .daa => .withFlags (.ofRegs [.a]) ⟨true, false, true, true⟩
  | .jr_z_e8 _ => .when (condHolds .z s.flags) .jumpRel
  | .add_hl_hl => .withFlags (.pair .hl) ⟨false, true, true, true⟩
  | .ld_a_atHLinc => .ofRegs [.a, .h, .l]
  | .dec_hl => .pair .hl
  | .inc_l => .withFlags (.ofRegs [.l]) (incDecFlagsWritten s.cfg.incdecFlags)
  | .dec_l => .withFlags (.ofRegs [.l]) (incDecFlagsWritten s.cfg.incdecFlags)
  | .ld_l_d8 _ => .ofRegs [.l]
  | .cpl => .withFlags (.ofRegs [.a]) ⟨true, true, true, true⟩
  | .jr_nc_e8 _ => .when (condHolds .nc s.flags) .jumpRel
  | .ld_sp_d16 _ => .pair .sp
  | .ld_atHLdec_a => .storeAndRegs [s.pair .hl] [.h, .l]
  | .inc_sp => .pair .sp
  | .inc_atHL => .withFlags (.store [s.pair .hl]) (incDecFlagsWritten s.cfg.incdecFlags)
  | .dec_atHL => .withFlags (.store [s.pair .hl]) (incDecFlagsWritten s.cfg.incdecFlags)
  | .ld_atHL_d8 _ => .store [s.pair .hl]
  | .scf => .withFlags .empty ⟨false, true, true, true⟩
  | .jr_c_e8 _ => .when (condHolds .c s.flags) .jumpRel
  | .add_hl_sp => .withFlags (.pair .hl) ⟨false, true, true, true⟩
  | .ld_a_atHLdec => .ofRegs [.a, .h, .l]
  | .dec_sp => .pair .sp
  | .inc_a => .withFlags (.ofRegs [.a]) (incDecFlagsWritten s.cfg.incdecFlags)
  | .dec_a => .withFlags (.ofRegs [.a]) (incDecFlagsWritten s.cfg.incdecFlags)
  | .ld_a_d8 _ => .ofRegs [.a]
  | .ccf => .withFlags .empty ⟨false, true, true, true⟩
  | .ld_b_b => .ofRegs [.b]
  | .ld_b_c => .ofRegs [.b]
  | .ld_b_d => .ofRegs [.b]
  | .ld_b_e => .ofRegs [.b]
  | .ld_b_h => .ofRegs [.b]
  | .ld_b_l => .ofRegs [.b]
  | .ld_b_atHL => .ofRegs [.b]
  | .ld_b_a => .ofRegs [.b]
  | .ld_c_b => .ofRegs [.c]
  | .ld_c_c => .ofRegs [.c]
  | .ld_c_d => .ofRegs [.c]
  | .ld_c_e => .ofRegs [.c]
  | .ld_c_h => .ofRegs [.c]
  | .ld_c_l => .ofRegs [.c]
  | .ld_c_atHL => .ofRegs [.c]
  | .ld_c_a => .ofRegs [.c]
  | .ld_d_b => .ofRegs [.d]
  | .ld_d_c => .ofRegs [.d]
  | .ld_d_d => .ofRegs [.d]
  | .ld_d_e => .ofRegs [.d]
  | .ld_d_h => .ofRegs [.d]
  | .ld_d_l => .ofRegs [.d]
  | .ld_d_atHL => .ofRegs [.d]
  | .ld_d_a => .ofRegs [.d]
  | .ld_e_b => .ofRegs [.e]
  | .ld_e_c => .ofRegs [.e]
  | .ld_e_d => .ofRegs [.e]
  | .ld_e_e => .ofRegs [.e]
  | .ld_e_h => .ofRegs [.e]
  | .ld_e_l => .ofRegs [.e]
  | .ld_e_atHL => .ofRegs [.e]
  | .ld_e_a => .ofRegs [.e]
  | .ld_h_b => .ofRegs [.h]
  | .ld_h_c => .ofRegs [.h]
  | .ld_h_d => .ofRegs [.h]
  | .ld_h_e => .ofRegs [.h]
  | .ld_h_h => .ofRegs [.h]
  | .ld_h_l => .ofRegs [.h]
  | .ld_h_atHL => .ofRegs [.h]
  | .ld_h_a => .ofRegs [.h]
  | .ld_l_b => .ofRegs [.l]
  | .ld_l_c => .ofRegs [.l]
  | .ld_l_d => .ofRegs [.l]
  | .ld_l_e => .ofRegs [.l]
  | .ld_l_h => .ofRegs [.l]
  | .ld_l_l => .ofRegs [.l]
  | .ld_l_atHL => .ofRegs [.l]
  | .ld_l_a => .ofRegs [.l]
  | .ld_atHL_b => .store [s.pair .hl]
  | .ld_atHL_c => .store [s.pair .hl]
  | .ld_atHL_d => .store [s.pair .hl]
  | .ld_atHL_e => .store [s.pair .hl]
  | .ld_atHL_h => .store [s.pair .hl]
  | .ld_atHL_l => .store [s.pair .hl]
  | .halt => .runOnly
  | .ld_atHL_a => .store [s.pair .hl]
  | .ld_a_b => .ofRegs [.a]
  | .ld_a_c => .ofRegs [.a]
  | .ld_a_d => .ofRegs [.a]
  | .ld_a_e => .ofRegs [.a]
  | .ld_a_h => .ofRegs [.a]
  | .ld_a_l => .ofRegs [.a]
  | .ld_a_atHL => .ofRegs [.a]
  | .ld_a_a => .ofRegs [.a]
  | .add_a_b => .withFlags (.ofRegs [.a]) ⟨true, true, true, true⟩
  | .add_a_c => .withFlags (.ofRegs [.a]) ⟨true, true, true, true⟩
  | .add_a_d => .withFlags (.ofRegs [.a]) ⟨true, true, true, true⟩
  | .add_a_e => .withFlags (.ofRegs [.a]) ⟨true, true, true, true⟩
  | .add_a_h => .withFlags (.ofRegs [.a]) ⟨true, true, true, true⟩
  | .add_a_l => .withFlags (.ofRegs [.a]) ⟨true, true, true, true⟩
  | .add_a_atHL => .withFlags (.ofRegs [.a]) ⟨true, true, true, true⟩
  | .add_a_a => .withFlags (.ofRegs [.a]) ⟨true, true, true, true⟩
  | .adc_a_b => .withFlags (.ofRegs [.a]) ⟨true, true, true, true⟩
  | .adc_a_c => .withFlags (.ofRegs [.a]) ⟨true, true, true, true⟩
  | .adc_a_d => .withFlags (.ofRegs [.a]) ⟨true, true, true, true⟩
  | .adc_a_e => .withFlags (.ofRegs [.a]) ⟨true, true, true, true⟩
  | .adc_a_h => .withFlags (.ofRegs [.a]) ⟨true, true, true, true⟩
  | .adc_a_l => .withFlags (.ofRegs [.a]) ⟨true, true, true, true⟩
  | .adc_a_atHL => .withFlags (.ofRegs [.a]) ⟨true, true, true, true⟩
  | .adc_a_a => .withFlags (.ofRegs [.a]) ⟨true, true, true, true⟩
  | .sub_a_b => .withFlags (.ofRegs [.a]) ⟨true, true, true, true⟩
  | .sub_a_c => .withFlags (.ofRegs [.a]) ⟨true, true, true, true⟩
  | .sub_a_d => .withFlags (.ofRegs [.a]) ⟨true, true, true, true⟩
  | .sub_a_e => .withFlags (.ofRegs [.a]) ⟨true, true, true, true⟩
  | .sub_a_h => .withFlags (.ofRegs [.a]) ⟨true, true, true, true⟩
  | .sub_a_l => .withFlags (.ofRegs [.a]) ⟨true, true, true, true⟩
  | .sub_a_atHL => .withFlags (.ofRegs [.a]) ⟨true, true, true, true⟩
  | .sub_a_a => .withFlags (.ofRegs [.a]) ⟨true, true, true, true⟩
  | .sbc_a_b => .withFlags (.ofRegs [.a]) ⟨true, true, true, true⟩
  | .sbc_a_c => .withFlags (.ofRegs [.a]) ⟨true, true, true, true⟩
  | .sbc_a_d => .withFlags (.ofRegs [.a]) ⟨true, true, true, true⟩
  | .sbc_a_e => .withFlags (.ofRegs [.a]) ⟨true, true, true, true⟩
  | .sbc_a_h => .withFlags (.ofRegs [.a]) ⟨true, true, true, true⟩
  | .sbc_a_l => .withFlags (.ofRegs [.a]) ⟨true, true, true, true⟩
  | .sbc_a_atHL => .withFlags (.ofRegs [.a]) ⟨true, true, true, true⟩
  | .sbc_a_a => .withFlags (.ofRegs [.a]) ⟨true, true, true, true⟩
  | .and_a_b => .withFlags (.ofRegs [.a]) ⟨true, true, true, true⟩
  | .and_a_c => .withFlags (.ofRegs [.a]) ⟨true, true, true, true⟩
  | .and_a_d => .withFlags (.ofRegs [.a]) ⟨true, true, true, true⟩
  | .and_a_e => .withFlags (.ofRegs [.a]) ⟨true, true, true, true⟩
  | .and_a_h => .withFlags (.ofRegs [.a]) ⟨true, true, true, true⟩
  | .and_a_l => .withFlags (.ofRegs [.a]) ⟨true, true, true, true⟩
  | .and_a_atHL => .withFlags (.ofRegs [.a]) ⟨true, true, true, true⟩
  | .and_a_a => .withFlags (.ofRegs [.a]) ⟨true, true, true, true⟩
  | .xor_a_b => .withFlags (.ofRegs [.a]) ⟨true, true, true, true⟩
  | .xor_a_c => .withFlags (.ofRegs [.a]) ⟨true, true, true, true⟩
  | .xor_a_d => .withFlags (.ofRegs [.a]) ⟨true, true, true, true⟩
  | .xor_a_e => .withFlags (.ofRegs [.a]) ⟨true, true, true, true⟩
  | .xor_a_h => .withFlags (.ofRegs [.a]) ⟨true, true, true, true⟩
  | .xor_a_l => .withFlags (.ofRegs [.a]) ⟨true, true, true, true⟩
  | .xor_a_atHL => .withFlags (.ofRegs [.a]) ⟨true, true, true, true⟩
  | .xor_a_a => .withFlags (.ofRegs [.a]) ⟨true, true, true, true⟩
  | .or_a_b => .withFlags (.ofRegs [.a]) ⟨true, true, true, true⟩
  | .or_a_c => .withFlags (.ofRegs [.a]) ⟨true, true, true, true⟩
  | .or_a_d => .withFlags (.ofRegs [.a]) ⟨true, true, true, true⟩
  | .or_a_e => .withFlags (.ofRegs [.a]) ⟨true, true, true, true⟩
  | .or_a_h => .withFlags (.ofRegs [.a]) ⟨true, true, true, true⟩
  | .or_a_l => .withFlags (.ofRegs [.a]) ⟨true, true, true, true⟩
  | .or_a_atHL => .withFlags (.ofRegs [.a]) ⟨true, true, true, true⟩
  | .or_a_a => .withFlags (.ofRegs [.a]) ⟨true, true, true, true⟩
  | .cp_a_b => .withFlags .empty ⟨true, true, true, true⟩
  | .cp_a_c => .withFlags .empty ⟨true, true, true, true⟩
  | .cp_a_d => .withFlags .empty ⟨true, true, true, true⟩
  | .cp_a_e => .withFlags .empty ⟨true, true, true, true⟩
  | .cp_a_h => .withFlags .empty ⟨true, true, true, true⟩
  | .cp_a_l => .withFlags .empty ⟨true, true, true, true⟩
  | .cp_a_atHL => .withFlags .empty ⟨true, true, true, true⟩
  | .cp_a_a => .withFlags .empty ⟨true, true, true, true⟩
  | .ret_nz => .when (condHolds .nz s.flags) .ret
  | .pop_bc => .popTo [.b, .c]
  | .jp_nz_a16 _ => .when (condHolds .nz s.flags) .jump
  | .jp_a16 _ => .jump
  | .call_nz_a16 _ => .when (condHolds .nz s.flags) (.call s)
  | .push_bc => .push s
  | .add_a_d8 _ => .withFlags (.ofRegs [.a]) ⟨true, true, true, true⟩
  | .rst_00h => .call s
  | .ret_z => .when (condHolds .z s.flags) .ret
  | .ret => .ret
  | .jp_z_a16 _ => .when (condHolds .z s.flags) .jump
  | .prefix_cb => .runOnly
  | .call_z_a16 _ => .when (condHolds .z s.flags) (.call s)
  | .call_a16 _ => .call s
  | .adc_a_d8 _ => .withFlags (.ofRegs [.a]) ⟨true, true, true, true⟩
  | .rst_08h => .call s
  | .ret_nc => .when (condHolds .nc s.flags) .ret
  | .pop_de => .popTo [.d, .e]
  | .jp_nc_a16 _ => .when (condHolds .nc s.flags) .jump
  | .illegal_d3 => .runOnly
  | .call_nc_a16 _ => .when (condHolds .nc s.flags) (.call s)
  | .push_de => .push s
  | .sub_a_d8 _ => .withFlags (.ofRegs [.a]) ⟨true, true, true, true⟩
  | .rst_10h => .call s
  | .ret_c => .when (condHolds .c s.flags) .ret
  | .reti => .withIme .ret
  | .jp_c_a16 _ => .when (condHolds .c s.flags) .jump
  | .illegal_db => .runOnly
  | .call_c_a16 _ => .when (condHolds .c s.flags) (.call s)
  | .illegal_dd => .runOnly
  | .sbc_a_d8 _ => .withFlags (.ofRegs [.a]) ⟨true, true, true, true⟩
  | .rst_18h => .call s
  | .ldh_a8_a a8 => .store [ioAddr a8]
  | .pop_hl => .popTo [.h, .l]
  | .ld_atC_a => .store [ioAddr s.c]
  | .illegal_e3 => .runOnly
  | .illegal_e4 => .runOnly
  | .push_hl => .push s
  | .and_a_d8 _ => .withFlags (.ofRegs [.a]) ⟨true, true, true, true⟩
  | .rst_20h => .call s
  | .add_sp_e8 _ => .withFlags (.pair .sp) ⟨true, true, true, true⟩
  | .jp_hl => .jump
  | .ld_a16_a a16 => .store [a16]
  | .illegal_eb => .runOnly
  | .illegal_ec => .runOnly
  | .illegal_ed => .runOnly
  | .xor_a_d8 _ => .withFlags (.ofRegs [.a]) ⟨true, true, true, true⟩
  | .rst_28h => .call s
  | .ldh_a_a8 _ => .ofRegs [.a]
  | .pop_af => .withFlags (.popTo [.a]) ⟨true, true, true, true⟩
  | .ld_a_atC => .ofRegs [.a]
  | .di => .imeOnly
  | .illegal_f4 => .runOnly
  | .push_af => .push s
  | .or_a_d8 _ => .withFlags (.ofRegs [.a]) ⟨true, true, true, true⟩
  | .rst_30h => .call s
  | .ld_hl_sp_e8 _ => .withFlags (.pair .hl) ⟨true, true, true, true⟩
  | .ld_sp_hl => .pair .sp
  | .ld_a_a16 _ => .ofRegs [.a]
  | .ei => .imeOnly
  | .illegal_fc => .runOnly
  | .illegal_fd => .runOnly
  | .cp_a_d8 _ => .withFlags .empty ⟨true, true, true, true⟩
  | .rst_38h => .call s
  | .rlc_b => .withFlags (.ofRegs [.b]) ⟨true, true, true, true⟩
  | .rlc_c => .withFlags (.ofRegs [.c]) ⟨true, true, true, true⟩
  | .rlc_d => .withFlags (.ofRegs [.d]) ⟨true, true, true, true⟩
  | .rlc_e => .withFlags (.ofRegs [.e]) ⟨true, true, true, true⟩
  | .rlc_h => .withFlags (.ofRegs [.h]) ⟨true, true, true, true⟩
  | .rlc_l => .withFlags (.ofRegs [.l]) ⟨true, true, true, true⟩
  | .rlc_atHL => .withFlags (.store [s.pair .hl]) ⟨true, true, true, true⟩
  | .rlc_a => .withFlags (.ofRegs [.a]) ⟨true, true, true, true⟩
  | .rrc_b => .withFlags (.ofRegs [.b]) ⟨true, true, true, true⟩
  | .rrc_c => .withFlags (.ofRegs [.c]) ⟨true, true, true, true⟩
  | .rrc_d => .withFlags (.ofRegs [.d]) ⟨true, true, true, true⟩
  | .rrc_e => .withFlags (.ofRegs [.e]) ⟨true, true, true, true⟩
  | .rrc_h => .withFlags (.ofRegs [.h]) ⟨true, true, true, true⟩
  | .rrc_l => .withFlags (.ofRegs [.l]) ⟨true, true, true, true⟩
  | .rrc_atHL => .withFlags (.store [s.pair .hl]) ⟨true, true, true, true⟩
  | .rrc_a => .withFlags (.ofRegs [.a]) ⟨true, true, true, true⟩
  | .rl_b => .withFlags (.ofRegs [.b]) ⟨true, true, true, true⟩
  | .rl_c => .withFlags (.ofRegs [.c]) ⟨true, true, true, true⟩
  | .rl_d => .withFlags (.ofRegs [.d]) ⟨true, true, true, true⟩
  | .rl_e => .withFlags (.ofRegs [.e]) ⟨true, true, true, true⟩
  | .rl_h => .withFlags (.ofRegs [.h]) ⟨true, true, true, true⟩
  | .rl_l => .withFlags (.ofRegs [.l]) ⟨true, true, true, true⟩
  | .rl_atHL => .withFlags (.store [s.pair .hl]) ⟨true, true, true, true⟩
  | .rl_a => .withFlags (.ofRegs [.a]) ⟨true, true, true, true⟩
  | .rr_b => .withFlags (.ofRegs [.b]) ⟨true, true, true, true⟩
  | .rr_c => .withFlags (.ofRegs [.c]) ⟨true, true, true, true⟩
  | .rr_d => .withFlags (.ofRegs [.d]) ⟨true, true, true, true⟩
  | .rr_e => .withFlags (.ofRegs [.e]) ⟨true, true, true, true⟩
  | .rr_h => .withFlags (.ofRegs [.h]) ⟨true, true, true, true⟩
  | .rr_l => .withFlags (.ofRegs [.l]) ⟨true, true, true, true⟩
  | .rr_atHL => .withFlags (.store [s.pair .hl]) ⟨true, true, true, true⟩
  | .rr_a => .withFlags (.ofRegs [.a]) ⟨true, true, true, true⟩
  | .sla_b => .withFlags (.ofRegs [.b]) ⟨true, true, true, true⟩
  | .sla_c => .withFlags (.ofRegs [.c]) ⟨true, true, true, true⟩
  | .sla_d => .withFlags (.ofRegs [.d]) ⟨true, true, true, true⟩
  | .sla_e => .withFlags (.ofRegs [.e]) ⟨true, true, true, true⟩
  | .sla_h => .withFlags (.ofRegs [.h]) ⟨true, true, true, true⟩
  | .sla_l => .withFlags (.ofRegs [.l]) ⟨true, true, true, true⟩
  | .sla_atHL => .withFlags (.store [s.pair .hl]) ⟨true, true, true, true⟩
  | .sla_a => .withFlags (.ofRegs [.a]) ⟨true, true, true, true⟩
  | .sra_b => .withFlags (.ofRegs [.b]) ⟨true, true, true, true⟩
  | .sra_c => .withFlags (.ofRegs [.c]) ⟨true, true, true, true⟩
  | .sra_d => .withFlags (.ofRegs [.d]) ⟨true, true, true, true⟩
  | .sra_e => .withFlags (.ofRegs [.e]) ⟨true, true, true, true⟩
  | .sra_h => .withFlags (.ofRegs [.h]) ⟨true, true, true, true⟩
  | .sra_l => .withFlags (.ofRegs [.l]) ⟨true, true, true, true⟩
  | .sra_atHL => .withFlags (.store [s.pair .hl]) ⟨true, true, true, true⟩
  | .sra_a => .withFlags (.ofRegs [.a]) ⟨true, true, true, true⟩
  | .swap_b => .withFlags (.ofRegs [.b]) ⟨true, true, true, true⟩
  | .swap_c => .withFlags (.ofRegs [.c]) ⟨true, true, true, true⟩
  | .swap_d => .withFlags (.ofRegs [.d]) ⟨true, true, true, true⟩
  | .swap_e => .withFlags (.ofRegs [.e]) ⟨true, true, true, true⟩
  | .swap_h => .withFlags (.ofRegs [.h]) ⟨true, true, true, true⟩
  | .swap_l => .withFlags (.ofRegs [.l]) ⟨true, true, true, true⟩
  | .swap_atHL => .withFlags (.store [s.pair .hl]) ⟨true, true, true, true⟩
  | .swap_a => .withFlags (.ofRegs [.a]) ⟨true, true, true, true⟩
  | .srl_b => .withFlags (.ofRegs [.b]) ⟨true, true, true, true⟩
  | .srl_c => .withFlags (.ofRegs [.c]) ⟨true, true, true, true⟩
  | .srl_d => .withFlags (.ofRegs [.d]) ⟨true, true, true, true⟩
  | .srl_e => .withFlags (.ofRegs [.e]) ⟨true, true, true, true⟩
  | .srl_h => .withFlags (.ofRegs [.h]) ⟨true, true, true, true⟩
  | .srl_l => .withFlags (.ofRegs [.l]) ⟨true, true, true, true⟩
  | .srl_atHL => .withFlags (.store [s.pair .hl]) ⟨true, true, true, true⟩
  | .srl_a => .withFlags (.ofRegs [.a]) ⟨true, true, true, true⟩
  | .bit_0_b => .withFlags .empty ⟨true, true, true, false⟩
  | .bit_0_c => .withFlags .empty ⟨true, true, true, false⟩
  | .bit_0_d => .withFlags .empty ⟨true, true, true, false⟩
  | .bit_0_e => .withFlags .empty ⟨true, true, true, false⟩
  | .bit_0_h => .withFlags .empty ⟨true, true, true, false⟩
  | .bit_0_l => .withFlags .empty ⟨true, true, true, false⟩
  | .bit_0_atHL => .withFlags .empty ⟨true, true, true, false⟩
  | .bit_0_a => .withFlags .empty ⟨true, true, true, false⟩
  | .bit_1_b => .withFlags .empty ⟨true, true, true, false⟩
  | .bit_1_c => .withFlags .empty ⟨true, true, true, false⟩
  | .bit_1_d => .withFlags .empty ⟨true, true, true, false⟩
  | .bit_1_e => .withFlags .empty ⟨true, true, true, false⟩
  | .bit_1_h => .withFlags .empty ⟨true, true, true, false⟩
  | .bit_1_l => .withFlags .empty ⟨true, true, true, false⟩
  | .bit_1_atHL => .withFlags .empty ⟨true, true, true, false⟩
  | .bit_1_a => .withFlags .empty ⟨true, true, true, false⟩
  | .bit_2_b => .withFlags .empty ⟨true, true, true, false⟩
  | .bit_2_c => .withFlags .empty ⟨true, true, true, false⟩
  | .bit_2_d => .withFlags .empty ⟨true, true, true, false⟩
  | .bit_2_e => .withFlags .empty ⟨true, true, true, false⟩
  | .bit_2_h => .withFlags .empty ⟨true, true, true, false⟩
  | .bit_2_l => .withFlags .empty ⟨true, true, true, false⟩
  | .bit_2_atHL => .withFlags .empty ⟨true, true, true, false⟩
  | .bit_2_a => .withFlags .empty ⟨true, true, true, false⟩
  | .bit_3_b => .withFlags .empty ⟨true, true, true, false⟩
  | .bit_3_c => .withFlags .empty ⟨true, true, true, false⟩
  | .bit_3_d => .withFlags .empty ⟨true, true, true, false⟩
  | .bit_3_e => .withFlags .empty ⟨true, true, true, false⟩
  | .bit_3_h => .withFlags .empty ⟨true, true, true, false⟩
  | .bit_3_l => .withFlags .empty ⟨true, true, true, false⟩
  | .bit_3_atHL => .withFlags .empty ⟨true, true, true, false⟩
  | .bit_3_a => .withFlags .empty ⟨true, true, true, false⟩
  | .bit_4_b => .withFlags .empty ⟨true, true, true, false⟩
  | .bit_4_c => .withFlags .empty ⟨true, true, true, false⟩
  | .bit_4_d => .withFlags .empty ⟨true, true, true, false⟩
  | .bit_4_e => .withFlags .empty ⟨true, true, true, false⟩
  | .bit_4_h => .withFlags .empty ⟨true, true, true, false⟩
  | .bit_4_l => .withFlags .empty ⟨true, true, true, false⟩
  | .bit_4_atHL => .withFlags .empty ⟨true, true, true, false⟩
  | .bit_4_a => .withFlags .empty ⟨true, true, true, false⟩
  | .bit_5_b => .withFlags .empty ⟨true, true, true, false⟩
  | .bit_5_c => .withFlags .empty ⟨true, true, true, false⟩
  | .bit_5_d => .withFlags .empty ⟨true, true, true, false⟩
  | .bit_5_e => .withFlags .empty ⟨true, true, true, false⟩
  | .bit_5_h => .withFlags .empty ⟨true, true, true, false⟩
  | .bit_5_l => .withFlags .empty ⟨true, true, true, false⟩
  | .bit_5_atHL => .withFlags .empty ⟨true, true, true, false⟩
  | .bit_5_a => .withFlags .empty ⟨true, true, true, false⟩
  | .bit_6_b => .withFlags .empty ⟨true, true, true, false⟩
  | .bit_6_c => .withFlags .empty ⟨true, true, true, false⟩
  | .bit_6_d => .withFlags .empty ⟨true, true, true, false⟩
  | .bit_6_e => .withFlags .empty ⟨true, true, true, false⟩
  | .bit_6_h => .withFlags .empty ⟨true, true, true, false⟩
  | .bit_6_l => .withFlags .empty ⟨true, true, true, false⟩
  | .bit_6_atHL => .withFlags .empty ⟨true, true, true, false⟩
  | .bit_6_a => .withFlags .empty ⟨true, true, true, false⟩
  | .bit_7_b => .withFlags .empty ⟨true, true, true, false⟩
  | .bit_7_c => .withFlags .empty ⟨true, true, true, false⟩
  | .bit_7_d => .withFlags .empty ⟨true, true, true, false⟩
  | .bit_7_e => .withFlags .empty ⟨true, true, true, false⟩
  | .bit_7_h => .withFlags .empty ⟨true, true, true, false⟩
  | .bit_7_l => .withFlags .empty ⟨true, true, true, false⟩
  | .bit_7_atHL => .withFlags .empty ⟨true, true, true, false⟩
  | .bit_7_a => .withFlags .empty ⟨true, true, true, false⟩
  | .res_0_b => .ofRegs [.b]
  | .res_0_c => .ofRegs [.c]
  | .res_0_d => .ofRegs [.d]
  | .res_0_e => .ofRegs [.e]
  | .res_0_h => .ofRegs [.h]
  | .res_0_l => .ofRegs [.l]
  | .res_0_atHL => .store [s.pair .hl]
  | .res_0_a => .ofRegs [.a]
  | .res_1_b => .ofRegs [.b]
  | .res_1_c => .ofRegs [.c]
  | .res_1_d => .ofRegs [.d]
  | .res_1_e => .ofRegs [.e]
  | .res_1_h => .ofRegs [.h]
  | .res_1_l => .ofRegs [.l]
  | .res_1_atHL => .store [s.pair .hl]
  | .res_1_a => .ofRegs [.a]
  | .res_2_b => .ofRegs [.b]
  | .res_2_c => .ofRegs [.c]
  | .res_2_d => .ofRegs [.d]
  | .res_2_e => .ofRegs [.e]
  | .res_2_h => .ofRegs [.h]
  | .res_2_l => .ofRegs [.l]
  | .res_2_atHL => .store [s.pair .hl]
  | .res_2_a => .ofRegs [.a]
  | .res_3_b => .ofRegs [.b]
  | .res_3_c => .ofRegs [.c]
  | .res_3_d => .ofRegs [.d]
  | .res_3_e => .ofRegs [.e]
  | .res_3_h => .ofRegs [.h]
  | .res_3_l => .ofRegs [.l]
  | .res_3_atHL => .store [s.pair .hl]
  | .res_3_a => .ofRegs [.a]
  | .res_4_b => .ofRegs [.b]
  | .res_4_c => .ofRegs [.c]
  | .res_4_d => .ofRegs [.d]
  | .res_4_e => .ofRegs [.e]
  | .res_4_h => .ofRegs [.h]
  | .res_4_l => .ofRegs [.l]
  | .res_4_atHL => .store [s.pair .hl]
  | .res_4_a => .ofRegs [.a]
  | .res_5_b => .ofRegs [.b]
  | .res_5_c => .ofRegs [.c]
  | .res_5_d => .ofRegs [.d]
  | .res_5_e => .ofRegs [.e]
  | .res_5_h => .ofRegs [.h]
  | .res_5_l => .ofRegs [.l]
  | .res_5_atHL => .store [s.pair .hl]
  | .res_5_a => .ofRegs [.a]
  | .res_6_b => .ofRegs [.b]
  | .res_6_c => .ofRegs [.c]
  | .res_6_d => .ofRegs [.d]
  | .res_6_e => .ofRegs [.e]
  | .res_6_h => .ofRegs [.h]
  | .res_6_l => .ofRegs [.l]
  | .res_6_atHL => .store [s.pair .hl]
  | .res_6_a => .ofRegs [.a]
  | .res_7_b => .ofRegs [.b]
  | .res_7_c => .ofRegs [.c]
  | .res_7_d => .ofRegs [.d]
  | .res_7_e => .ofRegs [.e]
  | .res_7_h => .ofRegs [.h]
  | .res_7_l => .ofRegs [.l]
  | .res_7_atHL => .store [s.pair .hl]
  | .res_7_a => .ofRegs [.a]
  | .set_0_b => .ofRegs [.b]
  | .set_0_c => .ofRegs [.c]
  | .set_0_d => .ofRegs [.d]
  | .set_0_e => .ofRegs [.e]
  | .set_0_h => .ofRegs [.h]
  | .set_0_l => .ofRegs [.l]
  | .set_0_atHL => .store [s.pair .hl]
  | .set_0_a => .ofRegs [.a]
  | .set_1_b => .ofRegs [.b]
  | .set_1_c => .ofRegs [.c]
  | .set_1_d => .ofRegs [.d]
  | .set_1_e => .ofRegs [.e]
  | .set_1_h => .ofRegs [.h]
  | .set_1_l => .ofRegs [.l]
  | .set_1_atHL => .store [s.pair .hl]
  | .set_1_a => .ofRegs [.a]
  | .set_2_b => .ofRegs [.b]
  | .set_2_c => .ofRegs [.c]
  | .set_2_d => .ofRegs [.d]
  | .set_2_e => .ofRegs [.e]
  | .set_2_h => .ofRegs [.h]
  | .set_2_l => .ofRegs [.l]
  | .set_2_atHL => .store [s.pair .hl]
  | .set_2_a => .ofRegs [.a]
  | .set_3_b => .ofRegs [.b]
  | .set_3_c => .ofRegs [.c]
  | .set_3_d => .ofRegs [.d]
  | .set_3_e => .ofRegs [.e]
  | .set_3_h => .ofRegs [.h]
  | .set_3_l => .ofRegs [.l]
  | .set_3_atHL => .store [s.pair .hl]
  | .set_3_a => .ofRegs [.a]
  | .set_4_b => .ofRegs [.b]
  | .set_4_c => .ofRegs [.c]
  | .set_4_d => .ofRegs [.d]
  | .set_4_e => .ofRegs [.e]
  | .set_4_h => .ofRegs [.h]
  | .set_4_l => .ofRegs [.l]
  | .set_4_atHL => .store [s.pair .hl]
  | .set_4_a => .ofRegs [.a]
  | .set_5_b => .ofRegs [.b]
  | .set_5_c => .ofRegs [.c]
  | .set_5_d => .ofRegs [.d]
  | .set_5_e => .ofRegs [.e]
  | .set_5_h => .ofRegs [.h]
  | .set_5_l => .ofRegs [.l]
  | .set_5_atHL => .store [s.pair .hl]
  | .set_5_a => .ofRegs [.a]
  | .set_6_b => .ofRegs [.b]
  | .set_6_c => .ofRegs [.c]
  | .set_6_d => .ofRegs [.d]
  | .set_6_e => .ofRegs [.e]
  | .set_6_h => .ofRegs [.h]
  | .set_6_l => .ofRegs [.l]
  | .set_6_atHL => .store [s.pair .hl]
  | .set_6_a => .ofRegs [.a]
  | .set_7_b => .ofRegs [.b]
  | .set_7_c => .ofRegs [.c]
  | .set_7_d => .ofRegs [.d]
  | .set_7_e => .ofRegs [.e]
  | .set_7_h => .ofRegs [.h]
  | .set_7_l => .ofRegs [.l]
  | .set_7_atHL => .store [s.pair .hl]
  | .set_7_a => .ofRegs [.a]

end Sys2Proof.Machine
end

