-- ==== Sys2Proof/Safety.lean ====
section
/-! DEFINITION. The terms claims are stated in: the invariants of the PPU (R344) and of the state, the run states a safe run does
not reach, and reachability. -/

namespace Sys2Proof.Machine

/-- The invariants of every reachable PPU state (R344). -/
abbrev Ppu.Inv (p : Ppu) : Prop :=
  p.ly ≤ 153 ∧ p.dot ≤ 113 ∧
  (p.mode = .oamSearch → p.ly = 0 ∧ p.dot ≤ 19) ∧
  (p.mode = .draw → p.ly ≤ 143 ∧ p.dot ≤ 62) ∧
  (p.mode = .hblank → p.ly ≤ 143) ∧
  (p.mode = .vblank → 144 ≤ p.ly)

/-- The invariant of the state: memory in its canonical form (R60), the PPU's invariants (R344), and the PPU is Off only when the
display is closed (R346, R347: only the frame hand-off to a closed display calls `stop()`). -/
abbrev State.Inv (s : State) : Prop :=
  Memory.wf s.mem = true ∧ s.ppu.Inv ∧ (s.ppu.mode = .off → s.displayOpen = false)

/-- No fault has been raised (R41, R321): what a safe run keeps. -/
def State.noFault (s : State) : Bool :=
  match s.runState with
  | .running => true
  | .halted _ => true
  | .faulted _ => false

/-- The states some number of steps away from `s₀`. -/
inductive Reachable (s₀ : State) : State → Prop where
  | refl : Reachable s₀ s₀
  | step {s t : State} : Reachable s₀ s → Machine.step s = .next t → Reachable s₀ t

/-- The illegal opcode bytes, as R100 lists them. -/
def illegalBytes : List Byte := [0xD3, 0xDB, 0xDD, 0xE3, 0xE4, 0xEB, 0xEC, 0xED, 0xF4, 0xFC, 0xFD]

/-- The three bytes at pc, from which the next instruction is decoded (R94, R95). -/
def State.bytesAtPc (s : State) : List Byte := [s.read s.pc, s.read (s.pc + 1), s.read (s.pc + 2)]

/-- The result is a next state that differs from `s` in memory only, and there in the byte at `addr` only, which is `v`. -/
def StoresByte (r : Result) (s : State) (addr : Word) (v : Byte) : Prop :=
  ∃ t, r = .next t ∧ t = { s with mem := t.mem } ∧ ∀ a, t.read a = if a = addr then v else s.read a

/-- The result is a next state that differs from `s` in memory only: the low byte of `v` at `addr`, the high byte at
`addr + 1`. -/
def StoresWord (r : Result) (s : State) (addr v : Word) : Prop :=
  ∃ t, r = .next t ∧ t = { s with mem := t.mem } ∧
    ∀ a, t.read a = if a = addr then lo v else if a = addr + 1 then hi v else s.read a

/-- The result is a next state that differs from `s` in SP, pc and memory only: SP is 2 lower, pc is `target`, and the word `v`
lies at the new SP, low byte first. -/
def PushesWord (r : Result) (s : State) (v target : Word) : Prop :=
  ∃ t, r = .next t ∧ t = { s with sp := s.sp - 2, pc := target, mem := t.mem } ∧
    ∀ a, t.read a = if a = s.sp - 2 then lo v else if a = s.sp - 1 then hi v else s.read a

end Sys2Proof.Machine
end

