-- ==== Sys2Proof/WellFormed.lean ====
section
/-! DEFINITION. Which terms of `Instr` are instructions: the rows that have a descriptor in some machine instance (R93). -/

namespace Sys2Proof

/-- A row of the core or of the extension layer. The illegal bytes never have a descriptor (R100), nor has the escape on its
own (R93). -/
def Instr.wellFormed (i : Instr) : Bool :=
  match i.row.layer with
  | .core => true
  | .ext => true
  | .illegal => false
  | .escape => false

end Sys2Proof
end

