-- ==== Sys2Proof/Certificates/Slice0/Obligations.lean ====
section
/-! DEFINITION. The statements for the provers. Each docstring names the rules of spec/ the statement rests on; a decision D<n> is the
spec's own choice (92_eei_decisions.md), a log entry is the model's. -/

open Sys2Proof Sys2Proof.Machine

/-- Words written out from the opcode maps decode to their instructions.
(30_encoding.md R98 (decisions D1, D2), 30_encoding.md R99 (decision D1).) -/
def Obligations.OpcodeWordsDecodeToTheirInstructions : Prop :=
  decode [0x41] = .ok (.ld_b_c, []) ∧
  decode [0x06, 0x42] = .ok (.ld_b_d8 0x42, []) ∧
  decode [0x21, 0x34, 0x12] = .ok (.ld_hl_d16 0x1234, []) ∧
  decode [0x34] = .ok (.inc_atHL, []) ∧
  decode [0x18, 0xFE] = .ok (.jr_e8 0xFE, []) ∧
  decode [0xCD, 0x00, 0x01] = .ok (.call_a16 0x0100, []) ∧
  decode [0xFF] = .ok (.rst_38h, []) ∧
  decode [0xF5] = .ok (.push_af, []) ∧
  decode [0x10, 0x00] = .ok (.stop 0x00, []) ∧
  decode [0x76] = .ok (.halt, []) ∧
  decode [0x86] = .ok (.add_a_atHL, []) ∧
  decode [0xFE, 0x40] = .ok (.cp_a_d8 0x40, []) ∧
  decode [0xE0, 0x80] = .ok (.ldh_a8_a 0x80, []) ∧
  decode [0x28, 0x20] = .ok (.jr_z_e8 0x20, []) ∧
  decode [0xCB, 0x37] = .ok (.swap_a, []) ∧
  decode [0xCB, 0x7C] = .ok (.bit_7_h, []) ∧
  decode [0xCB, 0xDE] = .ok (.set_3_atHL, []) ∧
  decode [0xD3] = .ok (.illegal_d3, [])

/-- Decoding the encoding of an instruction gives it back, with the bytes after it.
(30_encoding.md R90 (decision D3), 30_encoding.md R94 (decisions D4, D10, D14), 30_encoding.md R95 (decision D10),
30_encoding.md R98 (decisions D1, D2), 30_encoding.md R99 (decision D1).) -/
def Obligations.DecodeOfEncodeIsTheInstruction : Prop :=
  ∀ (i : Instr) (rest : List Byte), i ≠ .prefix_cb → decode (encode i ++ rest) = .ok (i, rest)

/-- What the decoder reads is exactly the encoding of what it answers.
(30_encoding.md R90 (decision D3), 30_encoding.md R95 (decision D10), 30_encoding.md R101 (decision D3).) -/
def Obligations.DecodedBytesAreTheEncoding : Prop :=
  ∀ (bs : List Byte) (i : Instr) (rest : List Byte), decode bs = .ok (i, rest) → bs = encode i ++ rest

/-- The opcode of each family is built from its operand codes.
(30_encoding.md R91 (decision D2), 30_encoding.md R92, 30_encoding.md R98 (decisions D1, D2), 30_encoding.md R99 (decision
D1).) -/
def Obligations.OpcodesFollowTheirFields : Prop :=
  (∀ dst r : Reg8, encode (.ldRegReg dst r) = [BitVec.ofNat 8 (0x40 + 8 * dst.code + r.code)]) ∧
  (∀ (dst : Reg8) (n : Byte), encode (.ldRegImm dst n) = [BitVec.ofNat 8 (0x06 + 8 * dst.code), n]) ∧
  (∀ (p : Pair) (w : Word), encode (.ldPairImm p w) = [BitVec.ofNat 8 (0x01 + 16 * p.code), lo w, hi w]) ∧
  (∀ dst : Reg8, encode (.ldRegAtHL dst) = [BitVec.ofNat 8 (0x46 + 8 * dst.code)]) ∧
  (∀ r : Reg8, encode (.ldAtHLReg r) = [BitVec.ofNat 8 (0x70 + r.code)]) ∧
  (∀ o : Opd8, encode (.incOpd o) = [BitVec.ofNat 8 (0x04 + 8 * o.code)] ∧
    encode (.decOpd o) = [BitVec.ofNat 8 (0x05 + 8 * o.code)]) ∧
  (∀ p : Pair, encode (.incPair p) = [BitVec.ofNat 8 (0x03 + 16 * p.code)] ∧
    encode (.decPair p) = [BitVec.ofNat 8 (0x0B + 16 * p.code)] ∧
    encode (.addHLPair p) = [BitVec.ofNat 8 (0x09 + 16 * p.code)]) ∧
  (∀ (op : AluOp) (o : Opd8), encode (.alu op (.opd o)) = [BitVec.ofNat 8 (0x80 + 8 * op.code + o.code)]) ∧
  (∀ (op : AluOp) (n : Byte), encode (.alu op (.imm n)) = [BitVec.ofNat 8 (0xC6 + 8 * op.code), n]) ∧
  (∀ p : Pair2, encode (.push p) = [BitVec.ofNat 8 (0xC5 + 16 * p.code)] ∧
    encode (.pop p) = [BitVec.ofNat 8 (0xC1 + 16 * p.code)]) ∧
  (∀ y : Fin 8, encode (.rst y) = [BitVec.ofNat 8 (0xC7 + 8 * y.val)]) ∧
  (∀ (cc : Cond) (x : Byte) (w : Word),
    encode (.jrCond cc x) = [BitVec.ofNat 8 (0x20 + 8 * cc.code), x] ∧
    encode (.jpCond cc w) = [BitVec.ofNat 8 (0xC2 + 8 * cc.code), lo w, hi w] ∧
    encode (.callCond cc w) = [BitVec.ofNat 8 (0xC4 + 8 * cc.code), lo w, hi w] ∧
    encode (.retCond cc) = [BitVec.ofNat 8 (0xC0 + 8 * cc.code)]) ∧
  (∀ (op : RotOp) (o : Opd8), encode (.rot op o) = [0xCB, BitVec.ofNat 8 (8 * op.code + o.code)]) ∧
  (∀ (y : Fin 8) (o : Opd8), encode (.bit y o) = [0xCB, BitVec.ofNat 8 (0x40 + 8 * y.val + o.code)] ∧
    encode (.res y o) = [0xCB, BitVec.ofNat 8 (0x80 + 8 * y.val + o.code)] ∧
    encode (.set y o) = [0xCB, BitVec.ofNat 8 (0xC0 + 8 * y.val + o.code)])

/-- The 0xCB map: every second byte is an instruction, and a decode fault without SM83_EXT.
The map is R99; that nothing else changes at the fault is R320.
(30_encoding.md R99 (decision D1), 30_encoding.md R94 (decisions D4, D10, D14), 60_exceptions.md R320 (decisions D1, D18,
D33).) -/
def Obligations.CbNamespaceIsWholeAndGated : Prop :=
  (∀ (op : RotOp) (o : Opd8), decode [0xCB, BitVec.ofNat 8 (8 * op.code + o.code)] = .ok (.rot op o, [])) ∧
  (∀ (y : Fin 8) (o : Opd8),
    decode [0xCB, BitVec.ofNat 8 (0x40 + 8 * y.val + o.code)] = .ok (.bit y o, []) ∧
    decode [0xCB, BitVec.ofNat 8 (0x80 + 8 * y.val + o.code)] = .ok (.res y o, []) ∧
    decode [0xCB, BitVec.ofNat 8 (0xC0 + 8 * y.val + o.code)] = .ok (.set y o, [])) ∧
  (∀ (op2 : Byte) (rest : List Byte), ∃ i, decode (0xCB :: op2 :: rest) = .ok (i, rest) ∧ i.row.layer = .ext ∧
    (∃ d, i.descriptor? true = some d) ∧ i.descriptor? false = none) ∧
  (∀ s : State, s.runState = .running → s.cfg.sm83Ext = false → s.read s.pc = 0xCB →
    process s = .next { s with runState := .faulted .decode })

/-- The eleven illegal bytes have no descriptor in either layer and fault; every other byte begins an instruction.
The illegal bytes are R100, that nothing else changes at the fault is R320, the descriptors of the other bytes are R93, R98
and R101.
(30_encoding.md R100 (decision D33), 60_exceptions.md R320 (decisions D1, D18, D33), 30_encoding.md R93 (decisions D1, D4),
30_encoding.md R98 (decisions D1, D2), 30_encoding.md R101 (decision D3).) -/
def Obligations.IllegalBytesNeverHaveADescriptor : Prop :=
  (∀ op ∈ illegalBytes,
    (∀ rest, ∃ i, decode (op :: rest) = .ok (i, rest) ∧ ∀ ext, i.descriptor? ext = none) ∧
    (∀ s : State, s.runState = .running → s.read s.pc = op → process s = .next { s with runState := .faulted .decode })) ∧
  (∀ op : Byte, op ∉ illegalBytes → ∀ b1 b2, ∃ i rest d,
    decode [op, b1, b2] = .ok (i, rest) ∧ i.descriptor? true = some d)

/-- A descriptor gives the encoded length, 1 to 3 bytes, and tells the 0xCB table.
(30_encoding.md R90 (decision D3), 30_encoding.md R93 (decisions D1, D4), 30_encoding.md R96 (decisions D3, D9).) -/
def Obligations.DescriptorLengthIsTheEncodedLength : Prop :=
  ∀ (ext : Bool) (i : Instr) (d : Descriptor), i.descriptor? ext = some d →
    d.length = (encode i).length ∧ 1 ≤ d.length ∧ d.length ≤ 3 ∧ (d.isCb = true ↔ (encode i).head? = some 0xCB)

/-- A step runs the decoded instruction after the pc advance, then its PPU ticks, then the poll.
That a step is one iteration of the driver loop is log 6, the trace line log 13: the model's.
(30_encoding.md R94 (decisions D4, D10, D14), 30_encoding.md R96 (decisions D3, D9), 30_encoding.md R97, 60_exceptions.md R351
(decision D26), 60_exceptions.md R352 (decisions D27, D28), notes/assumptions/6.md (log 6, DEDUCED), notes/assumptions/13.md
(log 13, DESIGN CHOICE).) -/
def Obligations.StepRunsTheDecodedInstruction : Prop :=
  ∀ (s : State) (i : Instr) (rest : List Byte) (d : Descriptor),
    s.runState = .running → s.displayOpen = true → decode s.bytesAtPc = .ok (i, rest) →
    i.descriptor? s.cfg.sm83Ext = some d →
    let taken := match i.row.cond with | some cc => condHolds cc s.flags | none => false
    let line : TraceLine :=
      { pc := s.pc, name := d.name, cycles := cyclesOf s.cfg i.row taken, operands := i.row.operands }
    step s =
      match exec i { s with pc := s.pc + BitVec.ofNat 16 d.length } with
      | .next t => .next (pollEvents (ppuTicks (ppuTicksOf s.cfg i.row taken) { t with lastTrace := some line }))
      | .fault r => .fault r
      | .refused r => .refused r

/-- Which keys have no descriptor, and what the CPU step then does.
(60_exceptions.md R320 (decisions D1, D18, D33), 30_encoding.md R93 (decisions D1, D4).) -/
def Obligations.MissingDescriptorIsADecodeFault : Prop :=
  ∀ (s : State) (i : Instr) (rest : List Byte), s.runState = .running → decode s.bytesAtPc = .ok (i, rest) →
    (i.descriptor? s.cfg.sm83Ext = none ↔
      s.read s.pc ∈ illegalBytes ∨ (i.row.layer = .ext ∧ s.cfg.sm83Ext = false)) ∧
    (i.descriptor? s.cfg.sm83Ext = none → process s = .next { s with runState := .faulted .decode })

/-- The meanings of the eleven illegal bytes and (the model's choice) of the lone escape take the decode fault.
That PREFIX_CB, which no fetch forms, has this meaning is the model's choice, log 8.
(60_exceptions.md R320 (decisions D1, D18, D33), 60_exceptions.md R321 (decision D34), 30_encoding.md R93 (decisions D1, D4),
notes/assumptions/8.md (log 8, DESIGN CHOICE).) -/
def Obligations.IllegalRowsRaiseDecodeFault : Prop :=
  ∀ i ∈ ([.illegal_d3, .illegal_db, .illegal_dd, .illegal_e3, .illegal_e4, .illegal_eb, .illegal_ec, .illegal_ed,
      .illegal_f4, .illegal_fc, .illegal_fd, .prefix_cb] : List Instr),
    ∀ s : State, exec i s = .next { s with runState := .faulted .decode }

/-- Halted and Faulted are terminal: no step, and no run of steps, changes anything.
The CPU step is R323; that the steps of the machine after the end of a run change nothing is log 6.
(60_exceptions.md R323, 60_exceptions.md R353 (decision D40), notes/assumptions/6.md (log 6, DEDUCED).) -/
def Obligations.TerminalRunStatesAreInert : Prop :=
  ∀ (s : State) (n : Nat), s.runState ≠ .running →
    process s = .next s ∧ Host.Core.run Sys2Proof.core n s = .next s

/-- A closed display ends the run and never reopens, and no step changes a parameter.
That the display never reopens is log 5, that a step with the display closed changes nothing is log 6, that parameters stay is
log 1: the model's readings.
(10_state.md R46, 60_exceptions.md R352 (decisions D27, D28), 60_exceptions.md R353 (decision D40), 60_exceptions.md R354
(decision D27), 00_scope.md R7 (decision D6), notes/assumptions/1.md (log 1, DESIGN CHOICE), notes/assumptions/5.md (log 5,
DESIGN CHOICE), notes/assumptions/6.md (log 6, DEDUCED).) -/
def Obligations.DisplayNeverReopensAndParametersStay : Prop :=
  (∀ s : State, s.displayOpen = false → step s = .next s) ∧
  (∀ s t : State, step s = .next t → (t.displayOpen = true → s.displayOpen = true) ∧ t.cfg = s.cfg)

/-- No instruction and no step stops the model.
That faults and halts are next states is log 7, that a step after the end of a run answers is log 6; the effects are stated
per family.
(10_state.md R31, 20_memory.md R61 (decision D37), 60_exceptions.md R324 (decision D34), notes/assumptions/6.md (log 6,
DEDUCED), notes/assumptions/7.md (log 7, DEDUCED).) -/
def Obligations.EveryInstructionAndStepAnswersANextState : Prop :=
  (∀ (i : Instr) (s : State), ∃ t, exec i s = .next t) ∧ (∀ s : State, ∃ t, step s = .next t)

/-- Every step keeps the canonical memory and the PPU invariants.
That a closed display stays closed is log 5, the step after the end of a run log 6: the model's. The canonical form is the
model's own form of memory.
(60_exceptions.md R344 (derived in the spec), 10_state.md R43, 20_memory.md R60, 60_exceptions.md R346, 60_exceptions.md R347
(decisions D22, D24), notes/assumptions/5.md (log 5, DESIGN CHOICE), notes/assumptions/6.md (log 6, DEDUCED).) -/
def Obligations.StepKeepsTheInvariant : Prop :=
  ∀ s t : State, s.Inv → step s = .next t → t.Inv

/-- The state after reset has the invariant.
(10_state.md R49 (decision D6), 60_exceptions.md R344 (derived in the spec).) -/
def Obligations.ResetMeetsTheInvariant : Prop :=
  State.reset.Inv

/-- PPU_TICKS is free: every function of key and branch outcome is a parameter value.
The form of the parameter, and CYCLES / 4 where its table has no entry, is log 4: the model's.
(00_scope.md R7 (decision D6), 60_exceptions.md R351 (decision D26), notes/assumptions/4.md (log 4, DESIGN CHOICE).) -/
def Obligations.EveryTickCostIsAParameterValue : Prop :=
  (∀ f : Nat → Bool → Nat, ∃ table : List Cost, ∀ (cfg : Config) (i : Instr) (taken : Bool),
    ppuTicksOf { cfg with ppuTicks := table } i.row taken = f i.row.key taken) ∧
  (∀ (cfg : Config) (row : TableRow) (taken : Bool),
    ppuTicksOf { cfg with ppuTicks := [] } row taken = cyclesOf cfg row taken / 4)

/-- The reset sequence: refused for a long image, else every register, the image and the started PPU, or the PPU Off if the host
closes.
The host's answers are log 5, the step after a display closed at start() log 6, the frame count log 12, the trace line log 13,
the parameters in the state log 1. For an image longer than 0x10000, that launch answers a state and memory holds the first
65536 bytes is log 14 (unsafe). The logs are the model's.
(10_state.md R49 (decisions D6, D7), 20_memory.md R66 (decision D12), 70_reset_and_hazards.md R380 (decisions D6, D7, D12,
D24), 60_exceptions.md R345, 60_exceptions.md R350 (decision D38), 60_exceptions.md R352 (decisions D27, D28),
notes/assumptions/1.md (log 1, DESIGN CHOICE), notes/assumptions/5.md (log 5, DESIGN CHOICE), notes/assumptions/6.md (log 6,
DEDUCED), notes/assumptions/12.md (log 12, DESIGN CHOICE), notes/assumptions/13.md (log 13, DESIGN CHOICE),
notes/assumptions/14.md (log 14, DESIGN CHOICE).) -/
def Obligations.LaunchGivesTheResetState : Prop :=
  ∀ (cfg : Config) (image : List Byte) (answers : List Bool),
    (image.length > cfg.imageMax → launch cfg image answers = .refused .imageTooLarge) ∧
    (image.length ≤ cfg.imageMax → ∃ t, launch cfg image answers = .next t ∧
      (∀ a : Word, t.read a = if a.toNat < image.length then image.getD a.toNat 0 else 0) ∧
      (answers.head? ≠ some false → t =
        { a := cfg.initRegs.a, flags := cfg.initRegs.f, b := cfg.initRegs.b, c := cfg.initRegs.c, d := cfg.initRegs.d,
          e := cfg.initRegs.e, h := cfg.initRegs.h, l := cfg.initRegs.l, sp := cfg.initRegs.sp, pc := cfg.resetPc,
          ime := false, runState := .running, mem := t.mem, ppu := { mode := .oamSearch, ly := 0, dot := 0 },
          displayOpen := true, cfg := cfg, hostAnswers := answers.tail, frames := 1, lastTrace := none }) ∧
      (answers.head? = some false → t.ppu.mode = .off ∧ t.displayOpen = false ∧ step t = .next t))

/-- A register write stores the value and changes no other state.
(R31.) -/
def Obligations.RegisterWriteIsLocal : Prop :=
  ∀ (s : State) (r : Reg8) (v : Byte),
    (s.setReg r v).reg r = v ∧ (∀ q, q ≠ r → (s.setReg r v).reg q = s.reg q) ∧
    s.setReg r v = { s with a := (s.setReg r v).a, b := (s.setReg r v).b, c := (s.setReg r v).c, d := (s.setReg r v).d,
                            e := (s.setReg r v).e, h := (s.setReg r v).h, l := (s.setReg r v).l }

/-- A pair is its two halves, read and written.
The pairs are R32 and R33; that a write of AF keeps only bits 7 to 4 of F is R34, their places R35.
(10_state.md R32, 10_state.md R33, 10_state.md R34 (derived in the spec), 10_state.md R35 (decision D5).) -/
def Obligations.PairsAreTheirHalves : Prop :=
  (∀ s : State, (s.pair .bc).toNat = s.b.toNat * 256 + s.c.toNat ∧ (s.pair .de).toNat = s.d.toNat * 256 + s.e.toNat ∧
    (s.pair .hl).toNat = s.h.toNat * 256 + s.l.toNat ∧
    (s.pair2 .af).toNat = s.a.toNat * 256 + (flagsToByte s.flags).toNat) ∧
  (∀ (s : State) (v : Word), ∃ high low : Byte, high.toNat = v.toNat / 256 ∧ low.toNat = v.toNat % 256 ∧
    s.setPair .bc v = { s with b := high, c := low } ∧ s.setPair .de v = { s with d := high, e := low } ∧
    s.setPair .hl v = { s with h := high, l := low } ∧ s.setPair2 .af v = { s with a := high, flags := flagsOfByte low }) ∧
  (∀ (s : State) (p : Pair) (v : Word), (s.setPair p v).pair p = v)

/-- F holds Z, N, H, C in bits 7 to 4 and its low nibble is always zero.
(10_state.md R34 (derived in the spec), 10_state.md R35 (decision D5).) -/
def Obligations.FlagByteLayout : Prop :=
  (∀ f : Flags, (flagsToByte f).getLsbD 7 = f.z ∧ (flagsToByte f).getLsbD 6 = f.n ∧ (flagsToByte f).getLsbD 5 = f.h ∧
    (flagsToByte f).getLsbD 4 = f.c ∧ (flagsToByte f).toNat % 16 = 0) ∧
  (∀ v : Byte, flagsToByte (flagsOfByte v) = v &&& 0xF0) ∧
  (∀ (s : State) (v : Word), (s.setPair2 .af v).pair2 .af = v &&& 0xFFF0)

/-- A byte write changes the byte written and nothing else of the machine.
(20_memory.md R61 (decision D37), 20_memory.md R63 (decision D11), 20_memory.md R64 (decisions D11, D22).) -/
def Obligations.ByteWriteChangesOneByte : Prop :=
  ∀ (s : State) (x : Word) (v : Byte),
    s.write x v = { s with mem := (s.write x v).mem } ∧
    (∀ y, (s.write x v).read y = if y = x then v else s.read y) ∧
    (Memory.wf s.mem = true → Memory.wf (s.write x v).mem = true)

/-- Word reads and writes are two byte accesses, low byte at the lower address, wrapping at 0xFFFF.
(20_memory.md R62 (decision D13), 20_memory.md R63 (decision D11), 20_memory.md R69 (derived in the spec), 20_memory.md R70
(decision D13).) -/
def Obligations.WordAccessIsLittleEndianAndWraps : Prop :=
  ∀ (s : State) (x v : Word),
    (s.readWord x).toNat = (s.read (BitVec.ofNat 16 ((x.toNat + 1) % 65536))).toNat * 256 + (s.read x).toNat ∧
    (∀ y, (s.writeWord x v).read y =
      if y = x then lo v else if y = BitVec.ofNat 16 ((x.toNat + 1) % 65536) then hi v else s.read y) ∧
    (s.writeWord x v).readWord x = v

/-- A store is seen by the next fetch.
(20_memory.md R77 (decision D14), 30_encoding.md R94 (decisions D4, D10, D14).) -/
def Obligations.FetchReadsMemoryAsItIs : Prop :=
  ∀ (s : State) (x : Word) (v : Byte) (i : Instr) (rest : List Byte),
    decode [if s.pc = x then v else s.read s.pc, if s.pc + 1 = x then v else s.read (s.pc + 1),
      if s.pc + 2 = x then v else s.read (s.pc + 2)] = .ok (i, rest) →
    fetch (s.write x v) = i

/-- LD r,r' ; LD r,d8 ; LD rr,d16: the destination gets the value and nothing else changes.
(R121, R122, R123.) -/
def Obligations.CopiesAndImmediateLoads : Prop :=
  (∀ (dst src : Reg8) (s : State), exec (.ldRegReg dst src) s = .next (s.setReg dst (s.reg src))) ∧
  (∀ (dst : Reg8) (d8 : Byte) (s : State), exec (.ldRegImm dst d8) s = .next (s.setReg dst d8)) ∧
  (∀ (p : Pair) (d16 : Word) (s : State), exec (.ldPairImm p d16) s = .next (s.setPair p d16))

/-- LD r,(HL) ; LD A,(BC) ; LD A,(DE) ; LD A,(a16) ; LDH A,(a8) ; LD A,(C).
(R124, R127, R128, R131, R140, R142.) -/
def Obligations.LoadsReadOneByte : Prop :=
  (∀ (dst : Reg8) (s : State), exec (.ldRegAtHL dst) s = .next (s.setReg dst (s.read (s.pair .hl)))) ∧
  (∀ s : State, exec .ld_a_atBC s = .next { s with a := s.read (s.pair .bc) }) ∧
  (∀ s : State, exec .ld_a_atDE s = .next { s with a := s.read (s.pair .de) }) ∧
  (∀ (a16 : Word) (s : State), exec (.ld_a_a16 a16) s = .next { s with a := s.read a16 }) ∧
  (∀ (a8 : Byte) (s : State), exec (.ldh_a_a8 a8) s = .next { s with a := s.read (0xFF00 + a8.setWidth 16) }) ∧
  (∀ s : State, exec .ld_a_atC s = .next { s with a := s.read (0xFF00 + s.c.setWidth 16) })

/-- LD (HL),r ; LD (HL),d8 ; LD (BC),A ; LD (DE),A ; LD (a16),A ; LDH (a8),A ; LD (C),A.
(R125, R126, R129, R130, R132, R139, R141.) -/
def Obligations.StoresWriteOneByte : Prop :=
  (∀ (src : Reg8) (s : State), StoresByte (exec (.ldAtHLReg src) s) s (s.pair .hl) (s.reg src)) ∧
  (∀ (d8 : Byte) (s : State), StoresByte (exec (.ld_atHL_d8 d8) s) s (s.pair .hl) d8) ∧
  (∀ s : State, StoresByte (exec .ld_atBC_a s) s (s.pair .bc) s.a) ∧
  (∀ s : State, StoresByte (exec .ld_atDE_a s) s (s.pair .de) s.a) ∧
  (∀ (a16 : Word) (s : State), StoresByte (exec (.ld_a16_a a16) s) s a16 s.a) ∧
  (∀ (a8 : Byte) (s : State), StoresByte (exec (.ldh_a8_a a8) s) s (0xFF00 + a8.setWidth 16) s.a) ∧
  (∀ s : State, StoresByte (exec .ld_atC_a s) s (0xFF00 + s.c.setWidth 16) s.a)

/-- LD (HL+),A ; LD (HL-),A ; LD A,(HL+) ; LD A,(HL-): the access, then HL moves by one mod 2^16.
(R133, R134, R135, R136.) -/
def Obligations.HLPostModification : Prop :=
  (∀ s : State, ∃ t, exec .ld_atHLinc_a s = .next t ∧ t = { s with mem := t.mem, h := t.h, l := t.l } ∧
    (t.pair .hl).toNat = ((s.pair .hl).toNat + 1) % 65536 ∧
    ∀ a, t.read a = if a = s.pair .hl then s.a else s.read a) ∧
  (∀ s : State, ∃ t, exec .ld_atHLdec_a s = .next t ∧ t = { s with mem := t.mem, h := t.h, l := t.l } ∧
    (t.pair .hl).toNat = ((s.pair .hl).toNat + 65535) % 65536 ∧
    ∀ a, t.read a = if a = s.pair .hl then s.a else s.read a) ∧
  (∀ s : State, ∃ t, exec .ld_a_atHLinc s = .next t ∧ t = { s with a := s.read (s.pair .hl), h := t.h, l := t.l } ∧
    (t.pair .hl).toNat = ((s.pair .hl).toNat + 1) % 65536) ∧
  (∀ s : State, ∃ t, exec .ld_a_atHLdec s = .next t ∧ t = { s with a := s.read (s.pair .hl), h := t.h, l := t.l } ∧
    (t.pair .hl).toNat = ((s.pair .hl).toNat + 65535) % 65536)

/-- LD (a16),SP stores both bytes of SP; LD SP,HL copies HL.
(R137, R138.) -/
def Obligations.StackPointerLoads : Prop :=
  (∀ (a16 : Word) (s : State), StoresWord (exec (.ld_a16_sp a16) s) s a16 s.sp) ∧
  (∀ s : State, exec .ld_sp_hl s = .next { s with sp := s.pair .hl })

/-- INC and DEC of a register, of (HL) and of a pair, under both settings of INCDEC_FLAGS.
The flags under both settings of INCDEC_FLAGS are R160.
(41_incdec.md R160 (decision D16), 41_incdec.md R161, 41_incdec.md R162, 41_incdec.md R163, 41_incdec.md R164, 41_incdec.md
R165, 41_incdec.md R166.) -/
def Obligations.IncrementsAndDecrements : Prop :=
  (∀ (o : Opd8) (s : State), exec (.incOpd o) s = .next ((s.setOpd o (s.opd o + 1)).setFlags
    (match s.cfg.incdecFlags with
      | .unchanged => s.flags
      | .sm83 => { z := decide (s.opd o = 0xFF), n := false, h := decide ((s.opd o).toNat % 16 = 15), c := s.flags.c }))) ∧
  (∀ (o : Opd8) (s : State), exec (.decOpd o) s = .next ((s.setOpd o (s.opd o - 1)).setFlags
    (match s.cfg.incdecFlags with
      | .unchanged => s.flags
      | .sm83 => { z := decide (s.opd o = 0x01), n := true, h := decide ((s.opd o).toNat % 16 = 0), c := s.flags.c }))) ∧
  (∀ (p : Pair) (s : State), exec (.incPair p) s = .next (s.setPair p (s.pair p + 1))) ∧
  (∀ (p : Pair) (s : State), exec (.decPair p) s = .next (s.setPair p (s.pair p - 1)))

/-- JR e8 jumps to the advanced pc plus the displacement, or faults outside 0 to 0xFFFF.
(R181.) -/
def Obligations.RelativeJumpOrRangeFault : Prop :=
  ∀ (e8 : Byte) (s : State),
    (∀ t : Word, (t.toNat : Int) = (s.pc.toNat : Int) + e8.toInt → exec (.jr_e8 e8) s = .next { s with pc := t }) ∧
    (((s.pc.toNat : Int) + e8.toInt < 0 ∨ (s.pc.toNat : Int) + e8.toInt > 0xFFFF) →
      exec (.jr_e8 e8) s = .next { s with runState := .faulted .jumpRange })

/-- JP a16, CALL a16 and RST n.
(R182, R183, R186.) -/
def Obligations.JumpsAndCalls : Prop :=
  (∀ (a16 : Word) (s : State), exec (.jp_a16 a16) s = .next { s with pc := a16 }) ∧
  (∀ (a16 : Word) (s : State), PushesWord (exec (.call_a16 a16) s) s s.pc a16) ∧
  (∀ (y : Fin 8) (s : State), PushesWord (exec (.rst y) s) s s.pc (BitVec.ofNat 16 (8 * y.val)))

/-- RET and RETI pop pc; RETI also sets IME.
(R184, R185.) -/
def Obligations.ReturnsPopThePc : Prop :=
  (∀ s : State, exec .ret s = .next { s with pc := word (s.read (s.sp + 1)) (s.read s.sp), sp := s.sp + 2 }) ∧
  (∀ s : State, exec .reti s =
    .next { s with pc := word (s.read (s.sp + 1)) (s.read s.sp), sp := s.sp + 2, ime := true })

/-- A RET at the state a CALL left restores pc and SP.
(42_control.md R183, 42_control.md R184, 43_stack.md R201 (derived in the spec).) -/
def Obligations.CallThenReturnRestores : Prop :=
  ∀ (a16 : Word) (s t : State), exec (.call_a16 a16) s = .next t →
    ∃ u, exec .ret t = .next u ∧ u = { s with mem := u.mem }

/-- PUSH rr stores the pair below SP; POP rr loads it and moves SP back.
(R202, R203.) -/
def Obligations.PushAndPop : Prop :=
  (∀ (p : Pair2) (s : State), PushesWord (exec (.push p) s) s (s.pair2 p) s.pc) ∧
  (∀ (p : Pair2) (s : State), exec (.pop p) s =
    .next ({ s with sp := s.sp + 2 }.setPair2 p (word (s.read (s.sp + 1)) (s.read s.sp))))

/-- POP of the pair a PUSH stored restores the machine but for memory.
(43_stack.md R200 (decisions D9, D13), 43_stack.md R201 (derived in the spec).) -/
def Obligations.PushThenPopRestores : Prop :=
  ∀ (p : Pair2) (s t : State), exec (.push p) s = .next t →
    ∃ u, exec (.pop p) t = .next u ∧ u = { s with mem := u.mem }

/-- NOP, EI, DI, HALT and STOP.
EI is R211, STOP R214.
(44_system.md R210, 44_system.md R211 (decision D20), 44_system.md R212, 44_system.md R213, 44_system.md R214 (decisions D3,
D19), 44_system.md R215 (decision D19).) -/
def Obligations.SystemInstructions : Prop :=
  (∀ s : State, exec .nop s = .next s) ∧
  (∀ s : State, exec .ei s = .next { s with ime := true }) ∧
  (∀ s : State, exec .di s = .next { s with ime := false }) ∧
  (∀ s : State, exec .halt s = .next { s with runState := .halted .halt }) ∧
  (∀ (x : Byte) (s : State), exec (.stop x) s = .next { s with runState := .halted .stop })

/-- ADD and ADC: the sum mod 2^8 and the four flags.
(R231, R232.) -/
def Obligations.AdditionSetsAccumulatorAndFlags : Prop :=
  ∀ (src : AluSrc) (s : State),
    (∃ t, exec (.alu .add src) s = .next t ∧ t = { s with a := t.a, flags := t.flags } ∧
      t.a.toNat = (s.a.toNat + (s.aluSrc src).toNat) % 256 ∧
      t.flags = { z := decide (t.a.toNat = 0), n := false,
                  h := decide (s.a.toNat % 16 + (s.aluSrc src).toNat % 16 > 15),
                  c := decide (s.a.toNat + (s.aluSrc src).toNat > 255) }) ∧
    (∃ t, exec (.alu .adc src) s = .next t ∧ t = { s with a := t.a, flags := t.flags } ∧
      t.a.toNat = (s.a.toNat + (s.aluSrc src).toNat + s.flags.c.toNat) % 256 ∧
      t.flags = { z := decide (t.a.toNat = 0), n := false,
                  h := decide (s.a.toNat % 16 + (s.aluSrc src).toNat % 16 + s.flags.c.toNat > 15),
                  c := decide (s.a.toNat + (s.aluSrc src).toNat + s.flags.c.toNat > 255) })

/-- SUB, SBC and CP: the difference mod 2^8 and the four flags; CP keeps A.
CP is R235.
(45_alu.md R233, 45_alu.md R234, 45_alu.md R235 (decision D17).) -/
def Obligations.SubtractionSetsAccumulatorAndFlags : Prop :=
  ∀ (src : AluSrc) (s : State),
    (∃ t, exec (.alu .sub src) s = .next t ∧ t = { s with a := t.a, flags := t.flags } ∧
      (t.a.toNat : Int) = ((s.a.toNat : Int) - (s.aluSrc src).toNat) % 256 ∧
      t.flags = { z := decide (t.a.toNat = 0), n := true, h := decide (s.a.toNat % 16 < (s.aluSrc src).toNat % 16),
                  c := decide ((s.a.toNat : Int) - (s.aluSrc src).toNat < 0) } ∧
      exec (.alu .cp src) s = .next { s with flags := t.flags }) ∧
    (∃ t, exec (.alu .sbc src) s = .next t ∧ t = { s with a := t.a, flags := t.flags } ∧
      (t.a.toNat : Int) = ((s.a.toNat : Int) - (s.aluSrc src).toNat - s.flags.c.toNat) % 256 ∧
      t.flags = { z := decide (t.a.toNat = 0), n := true,
                  h := decide (s.a.toNat % 16 < (s.aluSrc src).toNat % 16 + s.flags.c.toNat),
                  c := decide ((s.a.toNat : Int) - (s.aluSrc src).toNat - s.flags.c.toNat < 0) })

/-- AND, XOR, OR and CPL: bit by bit, Z from the result, N, H and C zero.
(R236, R237, R238, R239.) -/
def Obligations.BitwiseOperations : Prop :=
  ∀ (src : AluSrc) (s : State),
    (∃ t, exec (.alu .and src) s = .next t ∧ t = { s with a := t.a, flags := ⟨decide (t.a = 0), false, false, false⟩ } ∧
      ∀ k < 8, t.a.getLsbD k = (s.a.getLsbD k && (s.aluSrc src).getLsbD k)) ∧
    (∃ t, exec (.alu .xor src) s = .next t ∧ t = { s with a := t.a, flags := ⟨decide (t.a = 0), false, false, false⟩ } ∧
      ∀ k < 8, t.a.getLsbD k = (s.a.getLsbD k != (s.aluSrc src).getLsbD k)) ∧
    (∃ t, exec (.alu .or src) s = .next t ∧ t = { s with a := t.a, flags := ⟨decide (t.a = 0), false, false, false⟩ } ∧
      ∀ k < 8, t.a.getLsbD k = (s.a.getLsbD k || (s.aluSrc src).getLsbD k)) ∧
    (∃ t, exec .cpl s = .next t ∧ t = { s with a := t.a, flags := ⟨decide (t.a = 0), false, false, false⟩ } ∧
      ∀ k < 8, t.a.getLsbD k = !s.a.getLsbD k)

/-- RLCA, RRCA, RLA, RRA: the rotation of A, Carry from the bit that leaves, Z always 0.
(R261, R262, R263, R264.) -/
def Obligations.RotatesOfA : Prop :=
  ∀ s : State,
    (∃ t, exec .rlca s = .next t ∧ t.a.toNat = s.a.toNat * 2 % 256 + s.a.toNat / 128 ∧
      t = { s with a := t.a, flags := ⟨false, false, false, decide (s.a.toNat ≥ 128)⟩ }) ∧
    (∃ t, exec .rrca s = .next t ∧ t.a.toNat = s.a.toNat / 2 + 128 * (s.a.toNat % 2) ∧
      t = { s with a := t.a, flags := ⟨false, false, false, decide (s.a.toNat % 2 = 1)⟩ }) ∧
    (∃ t, exec .rla s = .next t ∧ t.a.toNat = s.a.toNat * 2 % 256 + s.flags.c.toNat ∧
      t = { s with a := t.a, flags := ⟨false, false, false, decide (s.a.toNat ≥ 128)⟩ }) ∧
    (∃ t, exec .rra s = .next t ∧ t.a.toNat = s.a.toNat / 2 + 128 * s.flags.c.toNat ∧
      t = { s with a := t.a, flags := ⟨false, false, false, decide (s.a.toNat % 2 = 1)⟩ })

/-- DAA corrects A by 0x60 and 0x06 as N, H, C and the digits say.
(R265.) -/
def Obligations.DecimalAdjust : Prop :=
  ∀ s : State, ∃ t, exec .daa s = .next t ∧ t = { s with a := t.a, flags := t.flags } ∧
    t.flags.n = s.flags.n ∧ t.flags.h = false ∧ t.flags.z = decide (t.a.toNat = 0) ∧
    (s.flags.n = false →
      t.flags.c = (s.flags.c || decide (s.a.toNat > 0x99)) ∧
      t.a.toNat = (s.a.toNat + (if s.flags.c = true ∨ s.a.toNat > 0x99 then 0x60 else 0)
        + (if s.flags.h = true ∨ s.a.toNat % 16 > 9 then 0x06 else 0)) % 256) ∧
    (s.flags.n = true →
      t.flags.c = s.flags.c ∧
      (t.a.toNat : Int) = ((s.a.toNat : Int) - (if s.flags.c = true then 0x60 else 0)
        - (if s.flags.h = true then 0x06 else 0)) % 256)

/-- ADD or SUB of two-digit BCD numbers followed by DAA is decimal addition or subtraction.
(46_ext_sm83.md R265, 45_alu.md R231, 45_alu.md R233.) -/
def Obligations.BcdArithmeticIsDecimal : Prop :=
  ∀ (x y : Fin 100) (s t : State), s.a = BitVec.ofNat 8 (16 * (x.val / 10) + x.val % 10) →
    (exec (.add_a_d8 (BitVec.ofNat 8 (16 * (y.val / 10) + y.val % 10))) s = .next t →
      ∃ u, exec .daa t = .next u ∧ u.flags.c = decide (x.val + y.val ≥ 100) ∧
        u.a = BitVec.ofNat 8 (16 * ((x.val + y.val) % 100 / 10) + (x.val + y.val) % 10)) ∧
    (exec (.sub_a_d8 (BitVec.ofNat 8 (16 * (y.val / 10) + y.val % 10))) s = .next t →
      ∃ u, exec .daa t = .next u ∧ u.flags.c = decide (x.val < y.val) ∧
        u.a = BitVec.ofNat 8 (16 * ((x.val + 100 - y.val) % 100 / 10) + (x.val + 100 - y.val) % 10))

/-- SCF sets and CCF complements the Carry; N and H are cleared, Z is kept.
(R266, R267.) -/
def Obligations.CarryFlagInstructions : Prop :=
  (∀ s : State, exec .scf s = .next { s with flags := ⟨s.flags.z, false, false, true⟩ }) ∧
  (∀ s : State, exec .ccf s = .next { s with flags := ⟨s.flags.z, false, false, !s.flags.c⟩ })

/-- ADD HL,rr ; ADD SP,e8 ; LD HL,SP+e8.
(R268, R269, R270.) -/
def Obligations.WordAdditions : Prop :=
  (∀ (p : Pair) (s : State), ∃ t, exec (.addHLPair p) s = .next t ∧ t = { s with h := t.h, l := t.l, flags := t.flags } ∧
    (t.pair .hl).toNat = ((s.pair .hl).toNat + (s.pair p).toNat) % 65536 ∧
    t.flags = { z := s.flags.z, n := false, h := decide ((s.pair .hl).toNat % 4096 + (s.pair p).toNat % 4096 > 4095),
                c := decide ((s.pair .hl).toNat + (s.pair p).toNat > 65535) }) ∧
  (∀ (e8 : Byte) (s : State), ∃ (r : Word) (f : Flags), (r.toNat : Int) = ((s.sp.toNat : Int) + e8.toInt) % 65536 ∧
    f = { z := false, n := false, h := decide (s.sp.toNat % 16 + e8.toNat % 16 > 15),
          c := decide (s.sp.toNat % 256 + e8.toNat > 255) } ∧
    exec (.add_sp_e8 e8) s = .next { s with sp := r, flags := f } ∧
    exec (.ld_hl_sp_e8 e8) s = .next { s with h := hi r, l := lo r, flags := f })

/-- JR cc, JP cc, CALL cc, RET cc and JP HL.
JP HL is R276, what the range fault leaves unchanged is R322.
(46_ext_sm83.md R271, 46_ext_sm83.md R272, 60_exceptions.md R322 (decision D18), 46_ext_sm83.md R273, 46_ext_sm83.md R274,
46_ext_sm83.md R275, 46_ext_sm83.md R276 (decision D1).) -/
def Obligations.ConditionalTransfersAndJumpHL : Prop :=
  (∀ f : Flags, condHolds .nz f = !f.z ∧ condHolds .z f = f.z ∧ condHolds .nc f = !f.c ∧ condHolds .c f = f.c) ∧
  (∀ (cc : Cond) (s : State), condHolds cc s.flags = false → ∀ (e8 : Byte) (a16 : Word),
    exec (.jrCond cc e8) s = .next s ∧ exec (.jpCond cc a16) s = .next s ∧ exec (.callCond cc a16) s = .next s ∧
    exec (.retCond cc) s = .next s) ∧
  (∀ (cc : Cond) (s : State), condHolds cc s.flags = true → ∀ (e8 : Byte) (a16 : Word),
    (∀ t : Word, (t.toNat : Int) = (s.pc.toNat : Int) + e8.toInt → exec (.jrCond cc e8) s = .next { s with pc := t }) ∧
    (((s.pc.toNat : Int) + e8.toInt < 0 ∨ (s.pc.toNat : Int) + e8.toInt > 0xFFFF) →
      exec (.jrCond cc e8) s = .next { s with runState := .faulted .jumpRange }) ∧
    exec (.jpCond cc a16) s = .next { s with pc := a16 } ∧
    PushesWord (exec (.callCond cc a16) s) s s.pc a16 ∧
    exec (.retCond cc) s = .next { s with pc := word (s.read (s.sp + 1)) (s.read s.sp), sp := s.sp + 2 }) ∧
  (∀ s : State, exec .jp_hl s = .next { s with pc := s.pair .hl })

/-- RLC, RRC, RL, RR, SLA, SRA, SWAP, SRL on a register or (HL).
(R301, R302, R303, R304, R305, R306, R307, R308.) -/
def Obligations.RotatesAndShifts : Prop :=
  ∀ (op : RotOp) (o : Opd8) (s : State), ∃ (res : Byte) (cy : Bool),
    exec (.rot op o) s = .next ((s.setOpd o res).setFlags ⟨decide (res.toNat = 0), false, false, cy⟩) ∧
    match op with
    | .rlc => res.toNat = (s.opd o).toNat * 2 % 256 + (s.opd o).toNat / 128 ∧ cy = decide ((s.opd o).toNat ≥ 128)
    | .rrc => res.toNat = (s.opd o).toNat / 2 + 128 * ((s.opd o).toNat % 2) ∧ cy = decide ((s.opd o).toNat % 2 = 1)
    | .rl => res.toNat = (s.opd o).toNat * 2 % 256 + s.flags.c.toNat ∧ cy = decide ((s.opd o).toNat ≥ 128)
    | .rr => res.toNat = (s.opd o).toNat / 2 + 128 * s.flags.c.toNat ∧ cy = decide ((s.opd o).toNat % 2 = 1)
    | .sla => res.toNat = (s.opd o).toNat * 2 % 256 ∧ cy = decide ((s.opd o).toNat ≥ 128)
    | .sra => res.toNat = (s.opd o).toNat / 2 + 128 * ((s.opd o).toNat / 128) ∧ cy = decide ((s.opd o).toNat % 2 = 1)
    | .swap => res.toNat = 16 * ((s.opd o).toNat % 16) + (s.opd o).toNat / 16 ∧ cy = false
    | .srl => res.toNat = (s.opd o).toNat / 2 ∧ cy = decide ((s.opd o).toNat % 2 = 1)

/-- BIT, RES and SET on a bit of a register or (HL).
(R309, R310, R311.) -/
def Obligations.BitTestResetAndSet : Prop :=
  ∀ (y : Fin 8) (o : Opd8) (s : State),
    exec (.bit y o) s = .next { s with flags := ⟨!(s.opd o).getLsbD y.val, false, true, s.flags.c⟩ } ∧
    (∃ res : Byte, exec (.res y o) s = .next (s.setOpd o res) ∧
      ∀ k < 8, res.getLsbD k = if k = y.val then false else (s.opd o).getLsbD k) ∧
    (∃ res : Byte, exec (.set y o) s = .next (s.setOpd o res) ∧
      ∀ k < 8, res.getLsbD k = if k = y.val then true else (s.opd o).getLsbD k)

/-- No instruction writes a register its rule does not name.
(40_loads.md R120 (decision D1), 45_alu.md R230, 43_stack.md R200 (decisions D9, D13), 43_stack.md R201 (derived in the
spec).) -/
def Obligations.RegisterFrame : Prop :=
  ∀ (i : Instr) (s t : State), exec i s = .next t →
    (∀ r, r ∉ (footprint i s).regs → t.reg r = s.reg r) ∧ ((footprint i s).sp = false → t.sp = s.sp)

/-- No instruction writes a flag outside those the table of R36 and its rule name.
(10_state.md R36 (derived in the spec), 00_scope.md R12 (derived in the spec), 41_incdec.md R160 (decision D16).) -/
def Obligations.FlagFrame : Prop :=
  ∀ (i : Instr) (s t : State), exec i s = .next t →
    ((footprint i s).flags.z = false → t.flags.z = s.flags.z) ∧ ((footprint i s).flags.n = false → t.flags.n = s.flags.n) ∧
    ((footprint i s).flags.h = false → t.flags.h = s.flags.h) ∧ ((footprint i s).flags.c = false → t.flags.c = s.flags.c)

/-- Every byte of memory outside the stored bytes reads as before.
(20_memory.md R63 (decision D11), 20_memory.md R71 (derived in the spec).) -/
def Obligations.MemoryFrame : Prop :=
  ∀ (i : Instr) (s t : State), exec i s = .next t → ∀ a, a ∉ (footprint i s).stores → t.read a = s.read a

/-- Only control transfers write pc, only EI, DI and RETI write IME, only HALT, STOP, JR and missing descriptors the run state.
(10_state.md R40, 30_encoding.md R97, 40_loads.md R120 (decision D1), 42_control.md R180.) -/
def Obligations.ControlStateFrame : Prop :=
  ∀ (i : Instr) (s t : State), exec i s = .next t →
    ((footprint i s).pc = false → t.pc = s.pc) ∧
    (i ≠ .ei → i ≠ .di → i ≠ .reti → t.ime = s.ime) ∧
    (i ≠ .halt → (∀ x, i ≠ .stop x) → (∀ x, i ≠ .jr_e8 x) → (∀ cc x, i ≠ .jrCond cc x) → i.wellFormed = true →
      t.runState = s.runState)

/-- No instruction changes the PPU, the display, the parameters or the host's state.
(10_state.md R45 (decision D22), 20_memory.md R64 (decisions D11, D22), 60_exceptions.md R347 (decisions D22, D24).) -/
def Obligations.CpuNeverTouchesPpuOrHost : Prop :=
  ∀ (i : Instr) (s t : State), exec i s = .next t →
    t.ppu = s.ppu ∧ t.displayOpen = s.displayOpen ∧ t.cfg = s.cfg ∧ t.hostAnswers = s.hostAnswers ∧ t.frames = s.frames ∧
    t.lastTrace = s.lastTrace

/-- The PPU mode lengths: 20, 63, 114 and 114 ticks, 26648 ticks a frame.
(60_exceptions.md R340 (decision D23), 60_exceptions.md R341 (derived in the spec), 70_reset_and_hazards.md R389.) -/
def Obligations.PpuModeDurations : Prop :=
  Ppu.tick^[20] ⟨.oamSearch, 0, 0⟩ = ⟨.draw, 0, 0⟩ ∧
  (∀ ly, Ppu.tick^[63] ⟨.draw, ly, 0⟩ = ⟨.hblank, ly, 0⟩) ∧
  (∀ ly, ly ≠ 143 → Ppu.tick^[114] ⟨.hblank, ly, 0⟩ = ⟨.draw, ly + 1, 0⟩) ∧
  Ppu.tick^[114] ⟨.hblank, 143, 0⟩ = ⟨.vblank, 144, 0⟩ ∧
  (∀ ly, ly ≠ 153 → Ppu.tick^[114] ⟨.vblank, ly, 0⟩ = ⟨.vblank, ly + 1, 0⟩) ∧
  Ppu.tick^[114] ⟨.vblank, 153, 0⟩ = ⟨.oamSearch, 0, 0⟩ ∧
  Ppu.tick^[25508] ⟨.oamSearch, 0, 0⟩ = ⟨.vblank, 144, 0⟩ ∧
  Ppu.tick^[26648] ⟨.oamSearch, 0, 0⟩ = ⟨.oamSearch, 0, 0⟩

/-- From every PPU state of R344 that is not Off, 26648 ticks produce exactly one frame and return to that state.
That an exhausted list of the host's answers means open is log 5, the frame count log 12: the model's.
(60_exceptions.md R341 (derived in the spec), 60_exceptions.md R343 (decision D25), 60_exceptions.md R344 (derived in the
spec), notes/assumptions/5.md (log 5, DESIGN CHOICE), notes/assumptions/12.md (log 12, DESIGN CHOICE).) -/
def Obligations.OneFramePerPeriod : Prop :=
  ∀ s : State, s.ppu.Inv → s.ppu.mode ≠ .off → s.displayOpen = true → (∀ b ∈ s.hostAnswers, b = true) →
    (ppuTicks 26648 s).ppu = s.ppu ∧ (ppuTicks 26648 s).frames = s.frames + 1 ∧ (ppuTicks 26648 s).displayOpen = true

/-- start() forces OAMSearch and produces a frame; stop() forces Off, which only start() leaves.
That an exhausted list of answers means open and a frame takes one answer is log 5, the step after the end of a run log 6, the
frame count log 12: the model's.
(60_exceptions.md R345, 60_exceptions.md R346, 60_exceptions.md R350 (decision D38), 60_exceptions.md R352 (decisions D27,
D28), notes/assumptions/5.md (log 5, DESIGN CHOICE), notes/assumptions/6.md (log 6, DEDUCED), notes/assumptions/12.md (log 12,
DESIGN CHOICE).) -/
def Obligations.StartAndStop : Prop :=
  (∀ s : State, s.displayOpen = true → s.hostAnswers.head? ≠ some false →
    ppuStart s = { s with ppu := ⟨.oamSearch, 0, 0⟩, hostAnswers := s.hostAnswers.tail, frames := s.frames + 1 }) ∧
  (∀ p : Ppu, p.stop = ⟨.off, p.ly, p.dot⟩) ∧
  (∀ (s : State) (n : Nat), s.ppu.mode = .off → ppuTicks n s = s) ∧
  (∀ s t : State, s.ppu.mode = .off → step s = .next t → t.ppu = s.ppu)

/-- A frame handed to a display that is closed stops the PPU.
Taking one answer (also when already closed) and an exhausted list meaning open are log 5, the frame count log 12: the
model's.
(60_exceptions.md R350 (decision D38), 60_exceptions.md R346, 60_exceptions.md R354 (decision D27), notes/assumptions/5.md
(log 5, DESIGN CHOICE), notes/assumptions/12.md (log 12, DESIGN CHOICE).) -/
def Obligations.ClosedDisplayStopsThePpu : Prop :=
  ∀ s : State,
    (s.displayOpen = true → s.hostAnswers.head? ≠ some false →
      produceFrame s = { s with frames := s.frames + 1, hostAnswers := s.hostAnswers.tail }) ∧
    (s.displayOpen = false ∨ s.hostAnswers.head? = some false →
      produceFrame s = { s with frames := s.frames + 1, hostAnswers := s.hostAnswers.tail, displayOpen := false,
                                ppu := ⟨.off, s.ppu.ly, s.ppu.dot⟩ })
end

