-- ==== Sys2Proof/Laws/Bits.lean ====
section
/-! SUPPORT. The halves of a word and their composition (R10), and the little-endian bytes. -/

namespace Sys2Proof

theorem word_toNat (h l : Byte) : (word h l).toNat = h.toNat * 256 + l.toNat := by
  rw [word, BitVec.toNat_append, ← Nat.shiftLeft_add_eq_or_of_lt l.isLt, Nat.shiftLeft_eq]

theorem hi_toNat (w : Word) : (hi w).toNat = w.toNat / 256 := by
  have := w.isLt
  simp only [hi, BitVec.extractLsb'_toNat, Nat.shiftRight_eq_div_pow]; omega

theorem lo_toNat (w : Word) : (lo w).toNat = w.toNat % 256 := by
  simp [lo]

@[simp] theorem hi_word (h l : Byte) : hi (word h l) = h := by
  have := l.isLt
  apply BitVec.eq_of_toNat_eq; rw [hi_toNat, word_toNat]; omega

@[simp] theorem lo_word (h l : Byte) : lo (word h l) = l := by
  have := l.isLt
  apply BitVec.eq_of_toNat_eq; rw [lo_toNat, word_toNat]; omega

@[simp] theorem word_hi_lo (w : Word) : word (hi w) (lo w) = w := by
  apply BitVec.eq_of_toNat_eq; rw [word_toNat, hi_toNat, lo_toNat]; omega

theorem sext16_eq_toInt (v : Byte) : sext16 v = v.toInt := by
  simp only [sext16, BitVec.toInt]; split <;> split <;> omega

theorem ioAddr_toNat (v : Byte) : (ioAddr v).toNat = 0xFF00 + v.toNat := by
  rw [ioAddr, word_toNat]; rfl

end Sys2Proof
end

