-- ==== Sys2Proof/Laws/State.lean ====
section
/-! SUPPORT. One lemma per field per update: what each named update of State leaves and what it writes. Later proofs use these and
unfold no record update. -/

namespace Sys2Proof.Machine

/-! ### setFlags -/

@[simp] theorem setFlags_a (s : State) (f : Flags) : (s.setFlags f).a = s.a := rfl
@[simp] theorem setFlags_b (s : State) (f : Flags) : (s.setFlags f).b = s.b := rfl
@[simp] theorem setFlags_c (s : State) (f : Flags) : (s.setFlags f).c = s.c := rfl
@[simp] theorem setFlags_d (s : State) (f : Flags) : (s.setFlags f).d = s.d := rfl
@[simp] theorem setFlags_e (s : State) (f : Flags) : (s.setFlags f).e = s.e := rfl
@[simp] theorem setFlags_h (s : State) (f : Flags) : (s.setFlags f).h = s.h := rfl
@[simp] theorem setFlags_l (s : State) (f : Flags) : (s.setFlags f).l = s.l := rfl
@[simp] theorem setFlags_sp (s : State) (f : Flags) : (s.setFlags f).sp = s.sp := rfl
@[simp] theorem setFlags_pc (s : State) (f : Flags) : (s.setFlags f).pc = s.pc := rfl
@[simp] theorem setFlags_ime (s : State) (f : Flags) : (s.setFlags f).ime = s.ime := rfl
@[simp] theorem setFlags_runState (s : State) (f : Flags) : (s.setFlags f).runState = s.runState := rfl
@[simp] theorem setFlags_mem (s : State) (f : Flags) : (s.setFlags f).mem = s.mem := rfl
@[simp] theorem setFlags_ppu (s : State) (f : Flags) : (s.setFlags f).ppu = s.ppu := rfl
@[simp] theorem setFlags_displayOpen (s : State) (f : Flags) : (s.setFlags f).displayOpen = s.displayOpen := rfl
@[simp] theorem setFlags_cfg (s : State) (f : Flags) : (s.setFlags f).cfg = s.cfg := rfl
@[simp] theorem setFlags_hostAnswers (s : State) (f : Flags) : (s.setFlags f).hostAnswers = s.hostAnswers := rfl
@[simp] theorem setFlags_frames (s : State) (f : Flags) : (s.setFlags f).frames = s.frames := rfl
@[simp] theorem setFlags_lastTrace (s : State) (f : Flags) : (s.setFlags f).lastTrace = s.lastTrace := rfl

/-! ### setPc -/

@[simp] theorem setPc_a (s : State) (t : Word) : (s.setPc t).a = s.a := rfl
@[simp] theorem setPc_flags (s : State) (t : Word) : (s.setPc t).flags = s.flags := rfl
@[simp] theorem setPc_b (s : State) (t : Word) : (s.setPc t).b = s.b := rfl
@[simp] theorem setPc_c (s : State) (t : Word) : (s.setPc t).c = s.c := rfl
@[simp] theorem setPc_d (s : State) (t : Word) : (s.setPc t).d = s.d := rfl
@[simp] theorem setPc_e (s : State) (t : Word) : (s.setPc t).e = s.e := rfl
@[simp] theorem setPc_h (s : State) (t : Word) : (s.setPc t).h = s.h := rfl
@[simp] theorem setPc_l (s : State) (t : Word) : (s.setPc t).l = s.l := rfl
@[simp] theorem setPc_sp (s : State) (t : Word) : (s.setPc t).sp = s.sp := rfl
@[simp] theorem setPc_ime (s : State) (t : Word) : (s.setPc t).ime = s.ime := rfl
@[simp] theorem setPc_runState (s : State) (t : Word) : (s.setPc t).runState = s.runState := rfl
@[simp] theorem setPc_mem (s : State) (t : Word) : (s.setPc t).mem = s.mem := rfl
@[simp] theorem setPc_ppu (s : State) (t : Word) : (s.setPc t).ppu = s.ppu := rfl
@[simp] theorem setPc_displayOpen (s : State) (t : Word) : (s.setPc t).displayOpen = s.displayOpen := rfl
@[simp] theorem setPc_cfg (s : State) (t : Word) : (s.setPc t).cfg = s.cfg := rfl
@[simp] theorem setPc_hostAnswers (s : State) (t : Word) : (s.setPc t).hostAnswers = s.hostAnswers := rfl
@[simp] theorem setPc_frames (s : State) (t : Word) : (s.setPc t).frames = s.frames := rfl
@[simp] theorem setPc_lastTrace (s : State) (t : Word) : (s.setPc t).lastTrace = s.lastTrace := rfl

/-! ### advancePc -/

@[simp] theorem advancePc_a (s : State) (n : Nat) : (s.advancePc n).a = s.a := rfl
@[simp] theorem advancePc_flags (s : State) (n : Nat) : (s.advancePc n).flags = s.flags := rfl
@[simp] theorem advancePc_b (s : State) (n : Nat) : (s.advancePc n).b = s.b := rfl
@[simp] theorem advancePc_c (s : State) (n : Nat) : (s.advancePc n).c = s.c := rfl
@[simp] theorem advancePc_d (s : State) (n : Nat) : (s.advancePc n).d = s.d := rfl
@[simp] theorem advancePc_e (s : State) (n : Nat) : (s.advancePc n).e = s.e := rfl
@[simp] theorem advancePc_h (s : State) (n : Nat) : (s.advancePc n).h = s.h := rfl
@[simp] theorem advancePc_l (s : State) (n : Nat) : (s.advancePc n).l = s.l := rfl
@[simp] theorem advancePc_sp (s : State) (n : Nat) : (s.advancePc n).sp = s.sp := rfl
@[simp] theorem advancePc_ime (s : State) (n : Nat) : (s.advancePc n).ime = s.ime := rfl
@[simp] theorem advancePc_runState (s : State) (n : Nat) : (s.advancePc n).runState = s.runState := rfl
@[simp] theorem advancePc_mem (s : State) (n : Nat) : (s.advancePc n).mem = s.mem := rfl
@[simp] theorem advancePc_ppu (s : State) (n : Nat) : (s.advancePc n).ppu = s.ppu := rfl
@[simp] theorem advancePc_displayOpen (s : State) (n : Nat) : (s.advancePc n).displayOpen = s.displayOpen := rfl
@[simp] theorem advancePc_cfg (s : State) (n : Nat) : (s.advancePc n).cfg = s.cfg := rfl
@[simp] theorem advancePc_hostAnswers (s : State) (n : Nat) : (s.advancePc n).hostAnswers = s.hostAnswers := rfl
@[simp] theorem advancePc_frames (s : State) (n : Nat) : (s.advancePc n).frames = s.frames := rfl
@[simp] theorem advancePc_lastTrace (s : State) (n : Nat) : (s.advancePc n).lastTrace = s.lastTrace := rfl

/-! ### setIme -/

@[simp] theorem setIme_a (s : State) (v : Bool) : (s.setIme v).a = s.a := rfl
@[simp] theorem setIme_flags (s : State) (v : Bool) : (s.setIme v).flags = s.flags := rfl
@[simp] theorem setIme_b (s : State) (v : Bool) : (s.setIme v).b = s.b := rfl
@[simp] theorem setIme_c (s : State) (v : Bool) : (s.setIme v).c = s.c := rfl
@[simp] theorem setIme_d (s : State) (v : Bool) : (s.setIme v).d = s.d := rfl
@[simp] theorem setIme_e (s : State) (v : Bool) : (s.setIme v).e = s.e := rfl
@[simp] theorem setIme_h (s : State) (v : Bool) : (s.setIme v).h = s.h := rfl
@[simp] theorem setIme_l (s : State) (v : Bool) : (s.setIme v).l = s.l := rfl
@[simp] theorem setIme_sp (s : State) (v : Bool) : (s.setIme v).sp = s.sp := rfl
@[simp] theorem setIme_pc (s : State) (v : Bool) : (s.setIme v).pc = s.pc := rfl
@[simp] theorem setIme_runState (s : State) (v : Bool) : (s.setIme v).runState = s.runState := rfl
@[simp] theorem setIme_mem (s : State) (v : Bool) : (s.setIme v).mem = s.mem := rfl
@[simp] theorem setIme_ppu (s : State) (v : Bool) : (s.setIme v).ppu = s.ppu := rfl
@[simp] theorem setIme_displayOpen (s : State) (v : Bool) : (s.setIme v).displayOpen = s.displayOpen := rfl
@[simp] theorem setIme_cfg (s : State) (v : Bool) : (s.setIme v).cfg = s.cfg := rfl
@[simp] theorem setIme_hostAnswers (s : State) (v : Bool) : (s.setIme v).hostAnswers = s.hostAnswers := rfl
@[simp] theorem setIme_frames (s : State) (v : Bool) : (s.setIme v).frames = s.frames := rfl
@[simp] theorem setIme_lastTrace (s : State) (v : Bool) : (s.setIme v).lastTrace = s.lastTrace := rfl

/-! ### write -/

@[simp] theorem write_a (s : State) (x : Word) (v : Byte) : (s.write x v).a = s.a := rfl
@[simp] theorem write_flags (s : State) (x : Word) (v : Byte) : (s.write x v).flags = s.flags := rfl
@[simp] theorem write_b (s : State) (x : Word) (v : Byte) : (s.write x v).b = s.b := rfl
@[simp] theorem write_c (s : State) (x : Word) (v : Byte) : (s.write x v).c = s.c := rfl
@[simp] theorem write_d (s : State) (x : Word) (v : Byte) : (s.write x v).d = s.d := rfl
@[simp] theorem write_e (s : State) (x : Word) (v : Byte) : (s.write x v).e = s.e := rfl
@[simp] theorem write_h (s : State) (x : Word) (v : Byte) : (s.write x v).h = s.h := rfl
@[simp] theorem write_l (s : State) (x : Word) (v : Byte) : (s.write x v).l = s.l := rfl
@[simp] theorem write_sp (s : State) (x : Word) (v : Byte) : (s.write x v).sp = s.sp := rfl
@[simp] theorem write_pc (s : State) (x : Word) (v : Byte) : (s.write x v).pc = s.pc := rfl
@[simp] theorem write_ime (s : State) (x : Word) (v : Byte) : (s.write x v).ime = s.ime := rfl
@[simp] theorem write_runState (s : State) (x : Word) (v : Byte) : (s.write x v).runState = s.runState := rfl
@[simp] theorem write_ppu (s : State) (x : Word) (v : Byte) : (s.write x v).ppu = s.ppu := rfl
@[simp] theorem write_displayOpen (s : State) (x : Word) (v : Byte) : (s.write x v).displayOpen = s.displayOpen := rfl
@[simp] theorem write_cfg (s : State) (x : Word) (v : Byte) : (s.write x v).cfg = s.cfg := rfl
@[simp] theorem write_hostAnswers (s : State) (x : Word) (v : Byte) : (s.write x v).hostAnswers = s.hostAnswers := rfl
@[simp] theorem write_frames (s : State) (x : Word) (v : Byte) : (s.write x v).frames = s.frames := rfl
@[simp] theorem write_lastTrace (s : State) (x : Word) (v : Byte) : (s.write x v).lastTrace = s.lastTrace := rfl

/-! ### writeWord -/

@[simp] theorem writeWord_a (s : State) (x v : Word) : (s.writeWord x v).a = s.a := rfl
@[simp] theorem writeWord_flags (s : State) (x v : Word) : (s.writeWord x v).flags = s.flags := rfl
@[simp] theorem writeWord_b (s : State) (x v : Word) : (s.writeWord x v).b = s.b := rfl
@[simp] theorem writeWord_c (s : State) (x v : Word) : (s.writeWord x v).c = s.c := rfl
@[simp] theorem writeWord_d (s : State) (x v : Word) : (s.writeWord x v).d = s.d := rfl
@[simp] theorem writeWord_e (s : State) (x v : Word) : (s.writeWord x v).e = s.e := rfl
@[simp] theorem writeWord_h (s : State) (x v : Word) : (s.writeWord x v).h = s.h := rfl
@[simp] theorem writeWord_l (s : State) (x v : Word) : (s.writeWord x v).l = s.l := rfl
@[simp] theorem writeWord_sp (s : State) (x v : Word) : (s.writeWord x v).sp = s.sp := rfl
@[simp] theorem writeWord_pc (s : State) (x v : Word) : (s.writeWord x v).pc = s.pc := rfl
@[simp] theorem writeWord_ime (s : State) (x v : Word) : (s.writeWord x v).ime = s.ime := rfl
@[simp] theorem writeWord_runState (s : State) (x v : Word) : (s.writeWord x v).runState = s.runState := rfl
@[simp] theorem writeWord_ppu (s : State) (x v : Word) : (s.writeWord x v).ppu = s.ppu := rfl
@[simp] theorem writeWord_displayOpen (s : State) (x v : Word) : (s.writeWord x v).displayOpen = s.displayOpen := rfl
@[simp] theorem writeWord_cfg (s : State) (x v : Word) : (s.writeWord x v).cfg = s.cfg := rfl
@[simp] theorem writeWord_hostAnswers (s : State) (x v : Word) : (s.writeWord x v).hostAnswers = s.hostAnswers := rfl
@[simp] theorem writeWord_frames (s : State) (x v : Word) : (s.writeWord x v).frames = s.frames := rfl
@[simp] theorem writeWord_lastTrace (s : State) (x v : Word) : (s.writeWord x v).lastTrace = s.lastTrace := rfl

/-! ### raiseFault -/

@[simp] theorem raiseFault_a (s : State) (r : Fault) : (raiseFault r s).a = s.a := rfl
@[simp] theorem raiseFault_flags (s : State) (r : Fault) : (raiseFault r s).flags = s.flags := rfl
@[simp] theorem raiseFault_b (s : State) (r : Fault) : (raiseFault r s).b = s.b := rfl
@[simp] theorem raiseFault_c (s : State) (r : Fault) : (raiseFault r s).c = s.c := rfl
@[simp] theorem raiseFault_d (s : State) (r : Fault) : (raiseFault r s).d = s.d := rfl
@[simp] theorem raiseFault_e (s : State) (r : Fault) : (raiseFault r s).e = s.e := rfl
@[simp] theorem raiseFault_h (s : State) (r : Fault) : (raiseFault r s).h = s.h := rfl
@[simp] theorem raiseFault_l (s : State) (r : Fault) : (raiseFault r s).l = s.l := rfl
@[simp] theorem raiseFault_sp (s : State) (r : Fault) : (raiseFault r s).sp = s.sp := rfl
@[simp] theorem raiseFault_pc (s : State) (r : Fault) : (raiseFault r s).pc = s.pc := rfl
@[simp] theorem raiseFault_ime (s : State) (r : Fault) : (raiseFault r s).ime = s.ime := rfl
@[simp] theorem raiseFault_mem (s : State) (r : Fault) : (raiseFault r s).mem = s.mem := rfl
@[simp] theorem raiseFault_ppu (s : State) (r : Fault) : (raiseFault r s).ppu = s.ppu := rfl
@[simp] theorem raiseFault_displayOpen (s : State) (r : Fault) : (raiseFault r s).displayOpen = s.displayOpen := rfl
@[simp] theorem raiseFault_cfg (s : State) (r : Fault) : (raiseFault r s).cfg = s.cfg := rfl
@[simp] theorem raiseFault_hostAnswers (s : State) (r : Fault) : (raiseFault r s).hostAnswers = s.hostAnswers := rfl
@[simp] theorem raiseFault_frames (s : State) (r : Fault) : (raiseFault r s).frames = s.frames := rfl
@[simp] theorem raiseFault_lastTrace (s : State) (r : Fault) : (raiseFault r s).lastTrace = s.lastTrace := rfl

/-! ### haltWith -/

@[simp] theorem haltWith_a (s : State) (r : HaltReason) : (haltWith r s).a = s.a := rfl
@[simp] theorem haltWith_flags (s : State) (r : HaltReason) : (haltWith r s).flags = s.flags := rfl
@[simp] theorem haltWith_b (s : State) (r : HaltReason) : (haltWith r s).b = s.b := rfl
@[simp] theorem haltWith_c (s : State) (r : HaltReason) : (haltWith r s).c = s.c := rfl
@[simp] theorem haltWith_d (s : State) (r : HaltReason) : (haltWith r s).d = s.d := rfl
@[simp] theorem haltWith_e (s : State) (r : HaltReason) : (haltWith r s).e = s.e := rfl
@[simp] theorem haltWith_h (s : State) (r : HaltReason) : (haltWith r s).h = s.h := rfl
@[simp] theorem haltWith_l (s : State) (r : HaltReason) : (haltWith r s).l = s.l := rfl
@[simp] theorem haltWith_sp (s : State) (r : HaltReason) : (haltWith r s).sp = s.sp := rfl
@[simp] theorem haltWith_pc (s : State) (r : HaltReason) : (haltWith r s).pc = s.pc := rfl
@[simp] theorem haltWith_ime (s : State) (r : HaltReason) : (haltWith r s).ime = s.ime := rfl
@[simp] theorem haltWith_mem (s : State) (r : HaltReason) : (haltWith r s).mem = s.mem := rfl
@[simp] theorem haltWith_ppu (s : State) (r : HaltReason) : (haltWith r s).ppu = s.ppu := rfl
@[simp] theorem haltWith_displayOpen (s : State) (r : HaltReason) : (haltWith r s).displayOpen = s.displayOpen := rfl
@[simp] theorem haltWith_cfg (s : State) (r : HaltReason) : (haltWith r s).cfg = s.cfg := rfl
@[simp] theorem haltWith_hostAnswers (s : State) (r : HaltReason) : (haltWith r s).hostAnswers = s.hostAnswers := rfl
@[simp] theorem haltWith_frames (s : State) (r : HaltReason) : (haltWith r s).frames = s.frames := rfl
@[simp] theorem haltWith_lastTrace (s : State) (r : HaltReason) : (haltWith r s).lastTrace = s.lastTrace := rfl

/-! ### popState -/

@[simp] theorem popState_a (s : State) : (popState s).a = s.a := rfl
@[simp] theorem popState_flags (s : State) : (popState s).flags = s.flags := rfl
@[simp] theorem popState_b (s : State) : (popState s).b = s.b := rfl
@[simp] theorem popState_c (s : State) : (popState s).c = s.c := rfl
@[simp] theorem popState_d (s : State) : (popState s).d = s.d := rfl
@[simp] theorem popState_e (s : State) : (popState s).e = s.e := rfl
@[simp] theorem popState_h (s : State) : (popState s).h = s.h := rfl
@[simp] theorem popState_l (s : State) : (popState s).l = s.l := rfl
@[simp] theorem popState_pc (s : State) : (popState s).pc = s.pc := rfl
@[simp] theorem popState_ime (s : State) : (popState s).ime = s.ime := rfl
@[simp] theorem popState_runState (s : State) : (popState s).runState = s.runState := rfl
@[simp] theorem popState_mem (s : State) : (popState s).mem = s.mem := rfl
@[simp] theorem popState_ppu (s : State) : (popState s).ppu = s.ppu := rfl
@[simp] theorem popState_displayOpen (s : State) : (popState s).displayOpen = s.displayOpen := rfl
@[simp] theorem popState_cfg (s : State) : (popState s).cfg = s.cfg := rfl
@[simp] theorem popState_hostAnswers (s : State) : (popState s).hostAnswers = s.hostAnswers := rfl
@[simp] theorem popState_frames (s : State) : (popState s).frames = s.frames := rfl
@[simp] theorem popState_lastTrace (s : State) : (popState s).lastTrace = s.lastTrace := rfl

/-! ### pushWord -/

@[simp] theorem pushWord_a (s : State) (v : Word) : (pushWord v s).a = s.a := rfl
@[simp] theorem pushWord_flags (s : State) (v : Word) : (pushWord v s).flags = s.flags := rfl
@[simp] theorem pushWord_b (s : State) (v : Word) : (pushWord v s).b = s.b := rfl
@[simp] theorem pushWord_c (s : State) (v : Word) : (pushWord v s).c = s.c := rfl
@[simp] theorem pushWord_d (s : State) (v : Word) : (pushWord v s).d = s.d := rfl
@[simp] theorem pushWord_e (s : State) (v : Word) : (pushWord v s).e = s.e := rfl
@[simp] theorem pushWord_h (s : State) (v : Word) : (pushWord v s).h = s.h := rfl
@[simp] theorem pushWord_l (s : State) (v : Word) : (pushWord v s).l = s.l := rfl
@[simp] theorem pushWord_pc (s : State) (v : Word) : (pushWord v s).pc = s.pc := rfl
@[simp] theorem pushWord_ime (s : State) (v : Word) : (pushWord v s).ime = s.ime := rfl
@[simp] theorem pushWord_runState (s : State) (v : Word) : (pushWord v s).runState = s.runState := rfl
@[simp] theorem pushWord_ppu (s : State) (v : Word) : (pushWord v s).ppu = s.ppu := rfl
@[simp] theorem pushWord_displayOpen (s : State) (v : Word) : (pushWord v s).displayOpen = s.displayOpen := rfl
@[simp] theorem pushWord_cfg (s : State) (v : Word) : (pushWord v s).cfg = s.cfg := rfl
@[simp] theorem pushWord_hostAnswers (s : State) (v : Word) : (pushWord v s).hostAnswers = s.hostAnswers := rfl
@[simp] theorem pushWord_frames (s : State) (v : Word) : (pushWord v s).frames = s.frames := rfl
@[simp] theorem pushWord_lastTrace (s : State) (v : Word) : (pushWord v s).lastTrace = s.lastTrace := rfl

/-! ### askHost -/

@[simp] theorem askHost_a (s : State) : (askHost s).a = s.a := rfl
@[simp] theorem askHost_flags (s : State) : (askHost s).flags = s.flags := rfl
@[simp] theorem askHost_b (s : State) : (askHost s).b = s.b := rfl
@[simp] theorem askHost_c (s : State) : (askHost s).c = s.c := rfl
@[simp] theorem askHost_d (s : State) : (askHost s).d = s.d := rfl
@[simp] theorem askHost_e (s : State) : (askHost s).e = s.e := rfl
@[simp] theorem askHost_h (s : State) : (askHost s).h = s.h := rfl
@[simp] theorem askHost_l (s : State) : (askHost s).l = s.l := rfl
@[simp] theorem askHost_sp (s : State) : (askHost s).sp = s.sp := rfl
@[simp] theorem askHost_pc (s : State) : (askHost s).pc = s.pc := rfl
@[simp] theorem askHost_ime (s : State) : (askHost s).ime = s.ime := rfl
@[simp] theorem askHost_runState (s : State) : (askHost s).runState = s.runState := rfl
@[simp] theorem askHost_mem (s : State) : (askHost s).mem = s.mem := rfl
@[simp] theorem askHost_ppu (s : State) : (askHost s).ppu = s.ppu := rfl
@[simp] theorem askHost_cfg (s : State) : (askHost s).cfg = s.cfg := rfl
@[simp] theorem askHost_frames (s : State) : (askHost s).frames = s.frames := rfl
@[simp] theorem askHost_lastTrace (s : State) : (askHost s).lastTrace = s.lastTrace := rfl

/-! ### setReg -/

@[simp] theorem setReg_flags (s : State) (r : Reg8) (v : Byte) : (s.setReg r v).flags = s.flags := by cases r <;> rfl
@[simp] theorem setReg_sp (s : State) (r : Reg8) (v : Byte) : (s.setReg r v).sp = s.sp := by cases r <;> rfl
@[simp] theorem setReg_pc (s : State) (r : Reg8) (v : Byte) : (s.setReg r v).pc = s.pc := by cases r <;> rfl
@[simp] theorem setReg_ime (s : State) (r : Reg8) (v : Byte) : (s.setReg r v).ime = s.ime := by cases r <;> rfl
@[simp] theorem setReg_runState (s : State) (r : Reg8) (v : Byte) : (s.setReg r v).runState = s.runState := by cases r <;> rfl
@[simp] theorem setReg_mem (s : State) (r : Reg8) (v : Byte) : (s.setReg r v).mem = s.mem := by cases r <;> rfl
@[simp] theorem setReg_ppu (s : State) (r : Reg8) (v : Byte) : (s.setReg r v).ppu = s.ppu := by cases r <;> rfl
@[simp] theorem setReg_displayOpen (s : State) (r : Reg8) (v : Byte) : (s.setReg r v).displayOpen = s.displayOpen := by cases r <;> rfl
@[simp] theorem setReg_cfg (s : State) (r : Reg8) (v : Byte) : (s.setReg r v).cfg = s.cfg := by cases r <;> rfl
@[simp] theorem setReg_hostAnswers (s : State) (r : Reg8) (v : Byte) : (s.setReg r v).hostAnswers = s.hostAnswers := by cases r <;> rfl
@[simp] theorem setReg_frames (s : State) (r : Reg8) (v : Byte) : (s.setReg r v).frames = s.frames := by cases r <;> rfl
@[simp] theorem setReg_lastTrace (s : State) (r : Reg8) (v : Byte) : (s.setReg r v).lastTrace = s.lastTrace := by cases r <;> rfl

/-! ### setPair -/

@[simp] theorem setPair_a (s : State) (p : Pair) (v : Word) : (s.setPair p v).a = s.a := by cases p <;> rfl
@[simp] theorem setPair_flags (s : State) (p : Pair) (v : Word) : (s.setPair p v).flags = s.flags := by cases p <;> rfl
@[simp] theorem setPair_pc (s : State) (p : Pair) (v : Word) : (s.setPair p v).pc = s.pc := by cases p <;> rfl
@[simp] theorem setPair_ime (s : State) (p : Pair) (v : Word) : (s.setPair p v).ime = s.ime := by cases p <;> rfl
@[simp] theorem setPair_runState (s : State) (p : Pair) (v : Word) : (s.setPair p v).runState = s.runState := by cases p <;> rfl
@[simp] theorem setPair_mem (s : State) (p : Pair) (v : Word) : (s.setPair p v).mem = s.mem := by cases p <;> rfl
@[simp] theorem setPair_ppu (s : State) (p : Pair) (v : Word) : (s.setPair p v).ppu = s.ppu := by cases p <;> rfl
@[simp] theorem setPair_displayOpen (s : State) (p : Pair) (v : Word) : (s.setPair p v).displayOpen = s.displayOpen := by cases p <;> rfl
@[simp] theorem setPair_cfg (s : State) (p : Pair) (v : Word) : (s.setPair p v).cfg = s.cfg := by cases p <;> rfl
@[simp] theorem setPair_hostAnswers (s : State) (p : Pair) (v : Word) : (s.setPair p v).hostAnswers = s.hostAnswers := by cases p <;> rfl
@[simp] theorem setPair_frames (s : State) (p : Pair) (v : Word) : (s.setPair p v).frames = s.frames := by cases p <;> rfl
@[simp] theorem setPair_lastTrace (s : State) (p : Pair) (v : Word) : (s.setPair p v).lastTrace = s.lastTrace := by cases p <;> rfl

/-! ### setPair2 -/

@[simp] theorem setPair2_sp (s : State) (p : Pair2) (v : Word) : (s.setPair2 p v).sp = s.sp := by cases p <;> rfl
@[simp] theorem setPair2_pc (s : State) (p : Pair2) (v : Word) : (s.setPair2 p v).pc = s.pc := by cases p <;> rfl
@[simp] theorem setPair2_ime (s : State) (p : Pair2) (v : Word) : (s.setPair2 p v).ime = s.ime := by cases p <;> rfl
@[simp] theorem setPair2_runState (s : State) (p : Pair2) (v : Word) : (s.setPair2 p v).runState = s.runState := by cases p <;> rfl
@[simp] theorem setPair2_mem (s : State) (p : Pair2) (v : Word) : (s.setPair2 p v).mem = s.mem := by cases p <;> rfl
@[simp] theorem setPair2_ppu (s : State) (p : Pair2) (v : Word) : (s.setPair2 p v).ppu = s.ppu := by cases p <;> rfl
@[simp] theorem setPair2_displayOpen (s : State) (p : Pair2) (v : Word) : (s.setPair2 p v).displayOpen = s.displayOpen := by cases p <;> rfl
@[simp] theorem setPair2_cfg (s : State) (p : Pair2) (v : Word) : (s.setPair2 p v).cfg = s.cfg := by cases p <;> rfl
@[simp] theorem setPair2_hostAnswers (s : State) (p : Pair2) (v : Word) : (s.setPair2 p v).hostAnswers = s.hostAnswers := by cases p <;> rfl
@[simp] theorem setPair2_frames (s : State) (p : Pair2) (v : Word) : (s.setPair2 p v).frames = s.frames := by cases p <;> rfl
@[simp] theorem setPair2_lastTrace (s : State) (p : Pair2) (v : Word) : (s.setPair2 p v).lastTrace = s.lastTrace := by cases p <;> rfl

/-! ### setOpd -/

@[simp] theorem setOpd_flags (s : State) (o : Opd8) (v : Byte) : (s.setOpd o v).flags = s.flags := by cases o <;> simp [State.setOpd]
@[simp] theorem setOpd_sp (s : State) (o : Opd8) (v : Byte) : (s.setOpd o v).sp = s.sp := by cases o <;> simp [State.setOpd]
@[simp] theorem setOpd_pc (s : State) (o : Opd8) (v : Byte) : (s.setOpd o v).pc = s.pc := by cases o <;> simp [State.setOpd]
@[simp] theorem setOpd_ime (s : State) (o : Opd8) (v : Byte) : (s.setOpd o v).ime = s.ime := by cases o <;> simp [State.setOpd]
@[simp] theorem setOpd_runState (s : State) (o : Opd8) (v : Byte) : (s.setOpd o v).runState = s.runState := by cases o <;> simp [State.setOpd]
@[simp] theorem setOpd_ppu (s : State) (o : Opd8) (v : Byte) : (s.setOpd o v).ppu = s.ppu := by cases o <;> simp [State.setOpd]
@[simp] theorem setOpd_displayOpen (s : State) (o : Opd8) (v : Byte) : (s.setOpd o v).displayOpen = s.displayOpen := by cases o <;> simp [State.setOpd]
@[simp] theorem setOpd_cfg (s : State) (o : Opd8) (v : Byte) : (s.setOpd o v).cfg = s.cfg := by cases o <;> simp [State.setOpd]
@[simp] theorem setOpd_hostAnswers (s : State) (o : Opd8) (v : Byte) : (s.setOpd o v).hostAnswers = s.hostAnswers := by cases o <;> simp [State.setOpd]
@[simp] theorem setOpd_frames (s : State) (o : Opd8) (v : Byte) : (s.setOpd o v).frames = s.frames := by cases o <;> simp [State.setOpd]
@[simp] theorem setOpd_lastTrace (s : State) (o : Opd8) (v : Byte) : (s.setOpd o v).lastTrace = s.lastTrace := by cases o <;> simp [State.setOpd]

/-! ### The written fields -/

@[simp] theorem setFlags_flags (s : State) (f : Flags) : (s.setFlags f).flags = f := rfl
@[simp] theorem setPc_pc (s : State) (t : Word) : (s.setPc t).pc = t := rfl
@[simp] theorem advancePc_pc (s : State) (n : Nat) : (s.advancePc n).pc = s.pc + BitVec.ofNat 16 n := rfl
@[simp] theorem setIme_ime (s : State) (v : Bool) : (s.setIme v).ime = v := rfl
@[simp] theorem write_mem (s : State) (x : Word) (v : Byte) : (s.write x v).mem = Memory.write s.mem x.toNat v := rfl
@[simp] theorem writeWord_mem (s : State) (x v : Word) :
    (s.writeWord x v).mem = Memory.write (Memory.write s.mem x.toNat (lo v)) (x + 1).toNat (hi v) := rfl
@[simp] theorem raiseFault_runState (s : State) (r : Fault) : (raiseFault r s).runState = .faulted r := rfl
@[simp] theorem haltWith_runState (s : State) (r : HaltReason) : (haltWith r s).runState = .halted r := rfl
@[simp] theorem popState_sp (s : State) : (popState s).sp = s.sp + 2 := rfl
@[simp] theorem pushWord_sp (s : State) (v : Word) : (pushWord v s).sp = s.sp - 2 := rfl
@[simp] theorem pushWord_mem (s : State) (v : Word) :
    (pushWord v s).mem = Memory.write (Memory.write s.mem (s.sp - 2).toNat (lo v)) (s.sp - 2 + 1).toNat (hi v) := rfl
@[simp] theorem askHost_displayOpen (s : State) : (askHost s).displayOpen = (s.displayOpen && s.hostAnswer) := rfl
@[simp] theorem askHost_hostAnswers (s : State) : (askHost s).hostAnswers = s.hostAnswers.tail := rfl

/-! ### Registers read after an update -/

@[simp] theorem setReg_reg (s : State) (r q : Reg8) (v : Byte) : (s.setReg r v).reg q = if q = r then v else s.reg q := by
  cases r <;> cases q <;> rfl

@[simp] theorem setFlags_reg (s : State) (f : Flags) (q : Reg8) : (s.setFlags f).reg q = s.reg q := by cases q <;> rfl
@[simp] theorem setFlags_pair (s : State) (f : Flags) (q : Pair) : (s.setFlags f).pair q = s.pair q := by cases q <;> rfl
@[simp] theorem setPc_reg (s : State) (t : Word) (q : Reg8) : (s.setPc t).reg q = s.reg q := by cases q <;> rfl
@[simp] theorem setPc_pair (s : State) (t : Word) (q : Pair) : (s.setPc t).pair q = s.pair q := by cases q <;> rfl
@[simp] theorem advancePc_reg (s : State) (n : Nat) (q : Reg8) : (s.advancePc n).reg q = s.reg q := by cases q <;> rfl
@[simp] theorem advancePc_pair (s : State) (n : Nat) (q : Pair) : (s.advancePc n).pair q = s.pair q := by cases q <;> rfl
@[simp] theorem setIme_reg (s : State) (v : Bool) (q : Reg8) : (s.setIme v).reg q = s.reg q := by cases q <;> rfl
@[simp] theorem setIme_pair (s : State) (v : Bool) (q : Pair) : (s.setIme v).pair q = s.pair q := by cases q <;> rfl
@[simp] theorem write_reg (s : State) (x : Word) (v : Byte) (q : Reg8) : (s.write x v).reg q = s.reg q := by cases q <;> rfl
@[simp] theorem write_pair (s : State) (x : Word) (v : Byte) (q : Pair) : (s.write x v).pair q = s.pair q := by cases q <;> rfl
@[simp] theorem writeWord_reg (s : State) (x v : Word) (q : Reg8) : (s.writeWord x v).reg q = s.reg q := by cases q <;> rfl
@[simp] theorem writeWord_pair (s : State) (x v : Word) (q : Pair) : (s.writeWord x v).pair q = s.pair q := by cases q <;> rfl
@[simp] theorem raiseFault_reg (s : State) (r : Fault) (q : Reg8) : (raiseFault r s).reg q = s.reg q := by cases q <;> rfl
@[simp] theorem raiseFault_pair (s : State) (r : Fault) (q : Pair) : (raiseFault r s).pair q = s.pair q := by cases q <;> rfl
@[simp] theorem haltWith_reg (s : State) (r : HaltReason) (q : Reg8) : (haltWith r s).reg q = s.reg q := by cases q <;> rfl
@[simp] theorem haltWith_pair (s : State) (r : HaltReason) (q : Pair) : (haltWith r s).pair q = s.pair q := by cases q <;> rfl
@[simp] theorem popState_reg (s : State) (q : Reg8) : (popState s).reg q = s.reg q := by cases q <;> rfl
@[simp] theorem pushWord_reg (s : State) (v : Word) (q : Reg8) : (pushWord v s).reg q = s.reg q := by cases q <;> rfl
@[simp] theorem askHost_reg (s : State) (q : Reg8) : (askHost s).reg q = s.reg q := by cases q <;> rfl
@[simp] theorem askHost_pair (s : State) (q : Pair) : (askHost s).pair q = s.pair q := by cases q <;> rfl

/-! ### Reads after an update that does not touch memory -/

@[simp] theorem setFlags_read (s : State) (f : Flags) (y : Word) : (s.setFlags f).read y = s.read y := by
  simp [State.read, State.busRead]
@[simp] theorem setPc_read (s : State) (t : Word) (y : Word) : (s.setPc t).read y = s.read y := by
  simp [State.read, State.busRead]
@[simp] theorem advancePc_read (s : State) (n : Nat) (y : Word) : (s.advancePc n).read y = s.read y := by
  simp [State.read, State.busRead]
@[simp] theorem setIme_read (s : State) (v : Bool) (y : Word) : (s.setIme v).read y = s.read y := by
  simp [State.read, State.busRead]
@[simp] theorem raiseFault_read (s : State) (r : Fault) (y : Word) : (raiseFault r s).read y = s.read y := by
  simp [State.read, State.busRead]
@[simp] theorem haltWith_read (s : State) (r : HaltReason) (y : Word) : (haltWith r s).read y = s.read y := by
  simp [State.read, State.busRead]
@[simp] theorem popState_read (s : State) (y : Word) : (popState s).read y = s.read y := by
  simp [State.read, State.busRead]
@[simp] theorem askHost_read (s : State) (y : Word) : (askHost s).read y = s.read y := by
  simp [State.read, State.busRead]
@[simp] theorem setReg_read (s : State) (r : Reg8) (v : Byte) (y : Word) : (s.setReg r v).read y = s.read y := by
  simp [State.read, State.busRead]
@[simp] theorem setPair_read (s : State) (p : Pair) (v : Word) (y : Word) : (s.setPair p v).read y = s.read y := by
  simp [State.read, State.busRead]
@[simp] theorem setPair2_read (s : State) (p : Pair2) (v : Word) (y : Word) : (s.setPair2 p v).read y = s.read y := by
  simp [State.read, State.busRead]

end Sys2Proof.Machine
end

