-- ==== Sys2Proof/Laws/Memory.lean ====
section
/-! SUPPORT. Memory: every read after every write, the image, and that every operation keeps the canonical form. -/

namespace Sys2Proof.Machine

/-! ### Reads after erase, insert and write -/

theorem Memory.read_erase (m : Mem) (a b : Nat) : Memory.read (Memory.erase m a) b = if b = a then 0 else Memory.read m b := by
  induction m with
  | nil => simp [Memory.erase, Memory.read]
  | cons e m ih =>
    obtain ⟨k, v⟩ := e
    simp only [Memory.erase]
    split
    · rename_i hk; subst hk
      rw [ih]; by_cases hb : b = k
      · simp [hb]
      · simp [Memory.read, hb, Ne.symm hb]
    · rename_i hk
      simp only [Memory.read]
      by_cases hb : k = b
      · subst hb; simp [hk]
      · simp [hb, ih]

theorem Memory.read_insert_same (m : Mem) (a : Nat) (v : Byte) (h : ∀ e ∈ m, e.1 ≠ a) :
    Memory.read (Memory.insert m a v) a = v := by
  induction m with
  | nil => simp [Memory.insert, Memory.read]
  | cons e m ih =>
    obtain ⟨k, w⟩ := e
    have hk : k ≠ a := h (k, w) (by simp)
    simp only [Memory.insert]
    split
    · simp [Memory.read]
    · simp only [Memory.read, hk, if_false]
      exact ih fun e he => h e (by simp [he])

theorem Memory.read_insert_other (m : Mem) (a b : Nat) (v : Byte) (h : b ≠ a) :
    Memory.read (Memory.insert m a v) b = Memory.read m b := by
  induction m with
  | nil => simp [Memory.insert, Memory.read, Ne.symm h]
  | cons e m ih =>
    obtain ⟨k, w⟩ := e
    simp only [Memory.insert]
    split
    · simp [Memory.read, Ne.symm h]
    · simp only [Memory.read, ih]

theorem Memory.mem_erase (m : Mem) (a : Nat) : ∀ e ∈ Memory.erase m a, e.1 ≠ a := by
  induction m with
  | nil => simp [Memory.erase]
  | cons e m ih =>
    obtain ⟨k, v⟩ := e
    simp only [Memory.erase]
    split
    · exact ih
    · rename_i hk
      intro e he
      rcases List.mem_cons.mp he with rfl | he
      · exact hk
      · exact ih e he

/-- What a byte write does: the byte written, and no other (R63). -/
theorem Memory.read_write (m : Mem) (a b : Nat) (v : Byte) :
    Memory.read (Memory.write m a v) b = if b = a then v else Memory.read m b := by
  simp only [Memory.write]
  split
  · rename_i hv; rw [Memory.read_erase, hv]
  · by_cases hb : b = a
    · subst hb; simp [Memory.read_insert_same _ _ _ (Memory.mem_erase m b)]
    · rw [Memory.read_insert_other _ _ _ _ hb, Memory.read_erase, if_neg hb, if_neg hb]

/-! ### The canonical form -/

theorem Memory.wfFrom_mono {lo lo' : Nat} {m : Mem} (h : lo' ≤ lo) (hm : Memory.wfFrom lo m = true) :
    Memory.wfFrom lo' m = true := by
  cases m with
  | nil => rfl
  | cons e m =>
    obtain ⟨k, v⟩ := e
    simp only [Memory.wfFrom, Bool.and_eq_true, decide_eq_true_eq] at hm ⊢
    obtain ⟨⟨⟨h1, h2⟩, h3⟩, h4⟩ := hm
    exact ⟨⟨⟨by omega, h2⟩, h3⟩, h4⟩

theorem Memory.wfFrom_erase {lo : Nat} {m : Mem} (a : Nat) (hm : Memory.wfFrom lo m = true) :
    Memory.wfFrom lo (Memory.erase m a) = true := by
  induction m generalizing lo with
  | nil => rfl
  | cons e m ih =>
    obtain ⟨k, v⟩ := e
    simp only [Memory.wfFrom, Bool.and_eq_true, decide_eq_true_eq] at hm
    obtain ⟨⟨⟨h1, h2⟩, h3⟩, h4⟩ := hm
    simp only [Memory.erase]
    split
    · exact Memory.wfFrom_mono (by omega) (ih h4)
    · simp only [Memory.wfFrom, Bool.and_eq_true, decide_eq_true_eq]
      exact ⟨⟨⟨h1, h2⟩, h3⟩, ih h4⟩

theorem Memory.wfFrom_insert {lo : Nat} {m : Mem} {a : Nat} {v : Byte} (hm : Memory.wfFrom lo m = true) (hlo : lo ≤ a)
    (ha : a < 0x10000) (hv : v ≠ 0) (hne : ∀ e ∈ m, e.1 ≠ a) : Memory.wfFrom lo (Memory.insert m a v) = true := by
  induction m generalizing lo with
  | nil =>
    simp only [Memory.insert, Memory.wfFrom, Bool.and_eq_true, decide_eq_true_eq, and_true]
    exact ⟨⟨hlo, ha⟩, hv⟩
  | cons e m ih =>
    obtain ⟨k, w⟩ := e
    have hk : k ≠ a := hne (k, w) (by simp)
    simp only [Memory.wfFrom, Bool.and_eq_true, decide_eq_true_eq] at hm
    obtain ⟨⟨⟨h1, h2⟩, h3⟩, h4⟩ := hm
    simp only [Memory.insert]
    split
    · simp only [Memory.wfFrom, Bool.and_eq_true, decide_eq_true_eq]
      exact ⟨⟨⟨hlo, ha⟩, hv⟩, ⟨⟨by omega, h2⟩, h3⟩, h4⟩
    · simp only [Memory.wfFrom, Bool.and_eq_true, decide_eq_true_eq]
      exact ⟨⟨⟨h1, h2⟩, h3⟩, ih h4 (by omega) fun e he => hne e (by simp [he])⟩

/-- A write keeps the canonical form. -/
theorem Memory.wf_write {m : Mem} (a : Word) (v : Byte) (hm : Memory.wf m = true) : Memory.wf (Memory.write m a.toNat v) = true := by
  simp only [Memory.write]
  split
  · exact Memory.wfFrom_erase _ hm
  · rename_i hv
    exact Memory.wfFrom_insert (Memory.wfFrom_erase _ hm) (Nat.zero_le _) a.isLt hv (Memory.mem_erase m _)

theorem Memory.wfFrom_ofImageFrom (k : Nat) (bs : List Byte) (h : k + bs.length ≤ 0x10000) :
    Memory.wfFrom k (Memory.ofImageFrom k bs) = true := by
  induction bs generalizing k with
  | nil => rfl
  | cons v bs ih =>
    simp only [List.length_cons] at h
    simp only [Memory.ofImageFrom]
    split
    · exact Memory.wfFrom_mono (by omega) (ih (k + 1) (by omega))
    · rename_i hv
      simp only [Memory.wfFrom, Bool.and_eq_true, decide_eq_true_eq]
      exact ⟨⟨⟨Nat.le_refl k, by omega⟩, hv⟩, ih (k + 1) (by omega)⟩

/-- The memory of an image has the canonical form. -/
theorem Memory.wf_ofImage (image : List Byte) : Memory.wf (Memory.ofImage image) = true :=
  Memory.wfFrom_ofImageFrom 0 _ (by simp)

/-- The memory after reset has the canonical form. -/
theorem reset_mem_wf : Memory.wf State.reset.mem = true := rfl

theorem Memory.read_ofImageFrom (k : Nat) (bs : List Byte) (a : Nat) :
    Memory.read (Memory.ofImageFrom k bs) a = if a < k then 0 else bs.getD (a - k) 0 := by
  induction bs generalizing k with
  | nil => simp [Memory.ofImageFrom, Memory.read]
  | cons v bs ih =>
    simp only [Memory.ofImageFrom]
    by_cases hak : k = a
    · subst hak
      split
      · rename_i hv; rw [ih]; simp [hv]
      · simp [Memory.read]
    · have hrec : Memory.read (Memory.ofImageFrom (k + 1) bs) a = if a < k then 0 else (v :: bs).getD (a - k) 0 := by
        rw [ih]
        by_cases h : a < k
        · simp [h, Nat.lt_succ_of_lt h]
        · obtain ⟨j, rfl⟩ : ∃ j, a = k + 1 + j := ⟨a - k - 1, by omega⟩
          simp [show ¬ k + 1 + j < k + 1 by omega, show ¬ k + 1 + j < k by omega,
            show k + 1 + j - (k + 1) = j by omega, show k + 1 + j - k = j + 1 by omega]
      split
      · exact hrec
      · simp only [Memory.read, hak, if_false]; exact hrec

/-! ### The bus -/

/-- A byte read after a byte write (R61, R63). -/
theorem write_read (s : State) (x y : Word) (v : Byte) : (s.write x v).read y = if y = x then v else s.read y := by
  simp only [State.read, State.busRead, write_mem, Memory.read_write, BitVec.toNat_inj]

/-- A byte read after a word write (R63): the second byte lies at `x + 1` mod 2^16. -/
theorem writeWord_read (s : State) (x v y : Word) :
    (s.writeWord x v).read y = if y = x + 1 then hi v else if y = x then lo v else s.read y := by
  simp only [State.writeWord, write_read]

theorem pushWord_read (s : State) (v y : Word) :
    (pushWord v s).read y = if y = s.sp - 2 + 1 then hi v else if y = s.sp - 2 then lo v else s.read y := by
  rw [show (pushWord v s).read y = (s.writeWord (s.sp - 2) v).read y from rfl, writeWord_read]

/-- A byte store, a word store and a push keep the canonical form. -/
theorem write_wf {s : State} (x : Word) (v : Byte) (h : Memory.wf s.mem = true) : Memory.wf (s.write x v).mem = true :=
  Memory.wf_write x v h

theorem writeWord_wf {s : State} (x v : Word) (h : Memory.wf s.mem = true) : Memory.wf (s.writeWord x v).mem = true :=
  write_wf (x + 1) (hi v) (write_wf x (lo v) h)

theorem pushWord_wf {s : State} (v : Word) (h : Memory.wf s.mem = true) : Memory.wf (pushWord v s).mem = true :=
  writeWord_wf (s := { s with sp := s.sp - 2 }) (s.sp - 2) v h

end Sys2Proof.Machine
end

