-- ==== Sys2Proof/Laws/Ops.lean ====
section
/-! SUPPORT. One lemma per shared operation, saying everything it does; proofs about instructions cite these. -/

namespace Sys2Proof.Machine

/-- A pair reads back what was written to it (R32, R33). -/
@[simp] theorem setPair_pair_same (s : State) (p : Pair) (v : Word) : (s.setPair p v).pair p = v := by
  cases p <;> simp [State.setPair, State.pair]

/-- A pair write leaves the other pairs (R33). -/
theorem setPair_pair_other (s : State) (p q : Pair) (v : Word) (h : q ≠ p) : (s.setPair p v).pair q = s.pair q := by
  cases p <;> cases q <;> simp_all [State.setPair, State.pair]

/-- F's byte has the four flags in bits 7:4 and zeros below (R34, R35). -/
theorem flagsOfByte_flagsToByte (f : Flags) : flagsOfByte (flagsToByte f) = f := by
  obtain ⟨z, n, h, c⟩ := f
  cases z <;> cases n <;> cases h <;> cases c <;> rfl

/-- The relative jump either jumps within 0 to 0xFFFF or raises `Fault(JumpRange)` (R181, R322). -/
theorem jumpRelative_cases (e8 : Byte) (s : State) :
    (0 ≤ relTarget s e8 ∧ relTarget s e8 ≤ 0xFFFF ∧ jumpRelative e8 s = s.setPc (BitVec.ofInt 16 (relTarget s e8))) ∨
    ((relTarget s e8 < 0 ∨ relTarget s e8 > 0xFFFF) ∧ jumpRelative e8 s = raiseFault .jumpRange s) := by
  simp only [jumpRelative]
  split
  · rename_i h; exact .inr ⟨h, rfl⟩
  · rename_i h; exact .inl ⟨by omega, by omega, rfl⟩

/-- `Push` then `Pop` returns the value and restores SP (R201). -/
theorem pushWord_popValue (v : Word) (s : State) : popValue (pushWord v s) = v := by
  simp [popValue, State.readWord, pushWord_read]

theorem pushWord_popState_sp (v : Word) (s : State) : (popState (pushWord v s)).sp = s.sp := by
  simp

/-- A conditional control transfer is its effect or nothing (R271). -/
theorem whenCond_cases (cc : Cond) (f : State → State) (s : State) :
    (condHolds cc s.flags = true ∧ whenCond cc f s = f s) ∨ (condHolds cc s.flags = false ∧ whenCond cc f s = s) := by
  simp only [whenCond]
  cases condHolds cc s.flags <;> simp

/-- Writing a register with its own value changes nothing (R37). -/
theorem setReg_reg_self (s : State) (r : Reg8) : s.setReg r (s.reg r) = s := by cases r <;> rfl

/-- Every operand write is a register write or a byte store at HL (R300). -/
theorem setOpd_cases (s : State) (o : Opd8) (v : Byte) :
    (∃ r, o = .reg r ∧ s.setOpd o v = s.setReg r v) ∨ (o = .atHL ∧ s.setOpd o v = s.write (s.pair .hl) v) := by
  cases o with
  | reg r => exact .inl ⟨r, rfl, rfl⟩
  | atHL => exact .inr ⟨rfl, rfl⟩

end Sys2Proof.Machine
end

