-- ==== Sys2Proof/Laws/Ppu.lean ====
section
/-! SUPPORT. The PPU: what a tick and a frame can do, and that they keep the invariants. -/

namespace Sys2Proof.Machine

/-- A frame counts one, asks the host, and stops the PPU exactly when the display is then closed (R350). -/
theorem produceFrame_eq (s : State) :
    produceFrame s = { s with
      frames := s.frames + 1, hostAnswers := s.hostAnswers.tail, displayOpen := s.displayOpen && s.hostAnswer,
      ppu := if s.displayOpen && s.hostAnswer then s.ppu else s.ppu.stop } := by
  simp only [produceFrame]
  split
  · rename_i h
    have h' : (s.displayOpen && s.hostAnswer) = true := h
    rw [if_pos h']; rfl
  · rename_i h
    have h' : ¬ (s.displayOpen && s.hostAnswer) = true := h
    rw [if_neg h']; rfl

/-- A tick moves the PPU, and produces a frame when it matches `FRAME_POINT` (R340, R343). -/
theorem ppuTick_cases (s : State) :
    (framePointHit s.cfg.framePoint s.ppu = true ∧ ppuTick s = produceFrame { s with ppu := s.ppu.tick }) ∨
    (framePointHit s.cfg.framePoint s.ppu = false ∧ ppuTick s = { s with ppu := s.ppu.tick }) := by
  simp only [ppuTick]
  cases framePointHit s.cfg.framePoint s.ppu <;> simp

/-- What a tick leaves and what it may change, for the whole machine: memory and the CPU's state are untouched, the display never
reopens (R45, R65, R350). -/
theorem ppuTick_frame (s : State) :
    ∃ p o ha fr, ppuTick s = { s with ppu := p, displayOpen := o, hostAnswers := ha, frames := fr } ∧
      (o = true → s.displayOpen = true) := by
  rcases ppuTick_cases s with ⟨-, h⟩ | ⟨-, h⟩ <;> rw [h]
  · rw [produceFrame_eq]
    exact ⟨_, _, _, _, rfl, by simp +contextual⟩
  · exact ⟨_, _, _, _, rfl, id⟩

theorem ppuTicks_frame (n : Nat) (s : State) :
    ∃ p o ha fr, ppuTicks n s = { s with ppu := p, displayOpen := o, hostAnswers := ha, frames := fr } ∧
      (o = true → s.displayOpen = true) := by
  induction n generalizing s with
  | zero => exact ⟨_, _, _, _, rfl, id⟩
  | succ n ih =>
    obtain ⟨p, o, ha, fr, h, ho⟩ := ppuTick_frame s
    obtain ⟨p', o', ha', fr', h', ho'⟩ := ih (ppuTick s)
    refine ⟨p', o', ha', fr', ?_, fun hh => ho ?_⟩
    · rw [ppuTicks, h', h]
    · have := ho' hh; rw [h] at this; exact this

/-- A tick keeps the PPU's invariants (R344). -/
theorem Ppu.tick_inv {p : Ppu} (h : p.Inv) : p.tick.Inv := by
  obtain ⟨mode, ly, dot⟩ := p
  obtain ⟨h1, h2, h3, h4, h5, h6⟩ := h
  cases mode <;> simp only [Ppu.tick] <;> (repeat' split) <;> simp_all [Ppu.Inv] <;> omega

/-- `stop()` keeps the PPU's invariants (R344, R346). -/
theorem Ppu.stop_inv {p : Ppu} (h : p.Inv) : p.stop.Inv := by
  simp only [Ppu.stop, Ppu.Inv] at h ⊢
  exact ⟨h.1, h.2.1, by simp, by simp, by simp, by simp⟩

/-- A tick leaves `Off` alone and enters it never (R346). -/
theorem Ppu.tick_off (p : Ppu) : p.tick.mode = .off ↔ p.mode = .off := by
  obtain ⟨mode, ly, dot⟩ := p
  cases mode <;> simp only [Ppu.tick] <;> (repeat' split) <;> simp

theorem askHost_inv {s : State} (h : s.Inv) : (askHost s).Inv :=
  ⟨h.1, h.2.1, fun hm => by rw [askHost_displayOpen, h.2.2 hm]; rfl⟩

theorem produceFrame_inv {s : State} (h : s.Inv) : (produceFrame s).Inv := by
  rw [produceFrame_eq]
  cases hc : s.displayOpen && s.hostAnswer
  · exact ⟨h.1, Ppu.stop_inv h.2.1, fun _ => rfl⟩
  · exact ⟨h.1, h.2.1, fun hm => absurd (h.2.2 hm) (by simp_all)⟩

theorem ppuTick_inv {s : State} (h : s.Inv) : (ppuTick s).Inv := by
  have h' : ({ s with ppu := s.ppu.tick } : State).Inv :=
    ⟨h.1, Ppu.tick_inv h.2.1, fun hm => h.2.2 ((Ppu.tick_off _).mp hm)⟩
  rcases ppuTick_cases s with ⟨-, e⟩ | ⟨-, e⟩ <;> rw [e]
  · exact produceFrame_inv h'
  · exact h'

theorem ppuTicks_inv {n : Nat} {s : State} (h : s.Inv) : (ppuTicks n s).Inv := by
  induction n generalizing s with
  | zero => exact h
  | succ n ih => exact ih (ppuTick_inv h)

end Sys2Proof.Machine
end

