-- ==== Sys2Proof/Laws/Step.lean ====
section
/-! SUPPORT. What a CPU step, a loop iteration and a step of the machine can do, said once. -/

namespace Sys2Proof.Machine

/-- The CPU step: nothing in a terminal run state, a decode fault, or the fetched instruction after the pc advance (R94 to R97,
R320, R323). -/
theorem process_cases (s : State) :
    (s.runState ≠ .running ∧ process s = .next s) ∨
    (s.runState = .running ∧ fetchedDescriptor s = none ∧ process s = .next (raiseFault .decode s)) ∨
    (∃ d, s.runState = .running ∧ fetchedDescriptor s = some d ∧ process s = exec (fetch s) (s.advancePc d.length)) := by
  simp only [process]
  cases hr : s.runState with
  | running =>
    cases hd : fetchedDescriptor s with
    | none => exact .inr (.inl ⟨rfl, rfl, rfl⟩)
    | some d => exact .inr (.inr ⟨d, rfl, rfl, rfl⟩)
  | halted r => exact .inl ⟨by simp, rfl⟩
  | faulted r => exact .inl ⟨by simp, rfl⟩

/-- A step of the machine: nothing once the run has ended, else a CPU step followed by its ticks and the poll (R352, R353). -/
theorem step_cases {s s' : State} (h : step s = .next s') :
    (runEnded s = true ∧ s' = s) ∨ (runEnded s = false ∧ ∃ t, process s = .next t ∧ s' = afterCpuStep s t) := by
  simp only [step, driverStep] at h
  cases he : runEnded s
  · simp only [he, Bool.false_eq_true, if_false, loopIteration] at h
    cases hp : process s with
    | next t => rw [hp] at h; exact .inr ⟨rfl, t, rfl, by injection h with h; exact h.symm⟩
    | fault r => rw [hp] at h; cases h
    | refused r => rw [hp] at h; cases h
  · simp only [he, if_true] at h
    exact .inl ⟨rfl, by injection h with h; exact h.symm⟩

/-- A run ends exactly when the run state is terminal or the display is closed (R353). -/
theorem runEnded_iff (s : State) : runEnded s = false ↔ s.runState = .running ∧ s.displayOpen = true := by
  simp only [runEnded]
  cases s.runState <;> simp

/-- After the CPU step, the driver changes only the PPU, the display, the host's answers, the frame count and the trace (R45,
R352). -/
theorem afterCpuStep_frame (s t : State) :
    ∃ p o ha fr, afterCpuStep s t =
      { t with lastTrace := traceOf s, ppu := p, displayOpen := o, hostAnswers := ha, frames := fr } ∧
      (o = true → t.displayOpen = true) := by
  obtain ⟨p, o, ha, fr, h, ho⟩ := ppuTicks_frame (ticksAfter s) { t with lastTrace := traceOf s }
  refine ⟨p, o && State.hostAnswer { t with lastTrace := traceOf s, ppu := p, displayOpen := o, hostAnswers := ha, frames := fr },
    ha.tail, fr, ?_, fun hh => ho ?_⟩
  · simp only [afterCpuStep, pollEvents, h, askHost]
  · simp only [Bool.and_eq_true] at hh; exact hh.1

/-- Iterations after the CPU step keep the invariant. -/
theorem afterCpuStep_inv {s t : State} (h : t.Inv) : (afterCpuStep s t).Inv :=
  askHost_inv (ppuTicks_inv (s := { t with lastTrace := traceOf s }) h)

/-- The state the reset sequence leaves has the invariant, for every image and every value of the parameters (R380). -/
theorem launch_inv {cfg : Config} {image : List Byte} {answers : List Bool} {t : State}
    (h : launch cfg image answers = .next t) : t.Inv := by
  simp only [launch] at h
  split at h <;> cases h
  exact produceFrame_inv (s := { powerOn cfg image answers with ppu := ⟨.oamSearch, 0, 0⟩ })
    ⟨Memory.wf_ofImage image, (by decide : Ppu.Inv ⟨.oamSearch, 0, 0⟩), nofun⟩

end Sys2Proof.Machine
end

