-- ==== Sys2Proof/Tests/Slice0.lean ====
section
/-! SUPPORT. Tests: the well-formedness checks, decoding of words written out from the opcode table (R104), the vectors of
95_test_vectors.md (S1 to S8, V1 to V173), and for every obligation with hypotheses a witness that meets them. No expected value
comes from the model. -/

namespace Sys2Proof.Tests

open Sys2Proof Sys2Proof.Machine

/-! ### Helpers -/

/-- The next state of a result. -/
def nx : Result → Option State
  | .next t => some t
  | .fault _ => none
  | .refused _ => none

/-- The instruction decoded from exactly these bytes. -/
def whole (bs : List Byte) : Option Instr :=
  match decode bs with
  | .ok (i, []) => some i
  | .ok (_, _ :: _) => none
  | .error _ => none

/-- The machine after reset with pc at 0x0100 and SP at 0xFFFE. -/
def core0 : State := { State.reset with pc := 0x0100, sp := 0xFFFE }

/-- The same with `SM83_EXT` true. -/
def ext0 : State := { core0 with cfg := { Config.default with sm83Ext := true } }

/-- F as a byte, for reading a vector. -/
def fl (v : Byte) : Flags := flagsOfByte v

/-- The CPU step on `s` with these bytes at pc gives exactly that state with `effect` made on it. -/
def runs (bs : List Byte) (s : State) (effect : State → State) : Bool :=
  let s₀ := storeBytes s.pc bs s
  decide (nx (process s₀) = some (effect s₀))

/-- An ALU vector: opcode of `alu A,d8`, A, operand, Carry before, A after, F after. -/
def aluVector (v : Byte × Byte × Byte × Bool × Byte × Byte) : Bool :=
  match v with
  | (op, a, b, c, a', f') =>
    runs [op, b] { core0 with a := a, flags := ⟨false, false, false, c⟩ }
      fun t => { t with a := a', flags := fl f', pc := 0x0102 }

/-- An increment or decrement vector under `sm83` and, with F unchanged, under the default: F starts at 0x10. -/
def incDecVector (bs : List Byte) (s : State) (effect : State → State) (f : Byte) : Bool :=
  runs bs { s with flags := fl 0x10 } effect &&
  runs bs { s with flags := fl 0x10, cfg := { s.cfg with incdecFlags := .sm83 } } fun t => { effect t with flags := fl f }

/-! ### Well-formedness -/

theorem test_wellFormed_accepts : Instr.wellFormed .nop = true ∧ Instr.wellFormed (.jr_z_e8 0x05) = true ∧
    Instr.wellFormed .set_7_atHL = true := by decide

theorem test_wellFormed_refuses_illegal :
    ([.illegal_d3, .illegal_db, .illegal_dd, .illegal_e3, .illegal_e4, .illegal_eb, .illegal_ec, .illegal_ed,
      .illegal_f4, .illegal_fc, .illegal_fd] : List Instr).all (fun i => !i.wellFormed) = true := by decide

theorem test_wellFormed_refuses_lone_escape : Instr.wellFormed .prefix_cb = false := by decide

/-! ### Decoding: the word of every row, from the `opcode` column, with operands 0x12 or 0x1234 -/

/-- Opcodes 0x00 to 0x0F (R98). -/
theorem test_decode_row_0 : ∀ e ∈ ([
    ([0x00], .nop), ([0x01, 0x34, 0x12], .ld_bc_d16 0x1234), ([0x02], .ld_atBC_a), ([0x03], .inc_bc), ([0x04], .inc_b),
    ([0x05], .dec_b), ([0x06, 0x12], .ld_b_d8 0x12), ([0x07], .rlca), ([0x08, 0x34, 0x12], .ld_a16_sp 0x1234),
    ([0x09], .add_hl_bc), ([0x0A], .ld_a_atBC), ([0x0B], .dec_bc), ([0x0C], .inc_c), ([0x0D], .dec_c),
    ([0x0E, 0x12], .ld_c_d8 0x12), ([0x0F], .rrca)] : List (List Byte × Instr)), whole e.1 = some e.2 := by
  simp only [List.forall_mem_cons]; exact ⟨rfl, rfl, rfl, rfl, rfl, rfl, rfl, rfl, rfl, rfl, rfl, rfl, rfl, rfl, rfl, rfl, by simp⟩

/-- Opcodes 0x10 to 0x1F (R98). -/
theorem test_decode_row_1 : ∀ e ∈ ([
    ([0x10, 0x12], .stop 0x12), ([0x11, 0x34, 0x12], .ld_de_d16 0x1234), ([0x12], .ld_atDE_a), ([0x13], .inc_de),
    ([0x14], .inc_d), ([0x15], .dec_d), ([0x16, 0x12], .ld_d_d8 0x12), ([0x17], .rla), ([0x18, 0x12], .jr_e8 0x12),
    ([0x19], .add_hl_de), ([0x1A], .ld_a_atDE), ([0x1B], .dec_de), ([0x1C], .inc_e), ([0x1D], .dec_e),
    ([0x1E, 0x12], .ld_e_d8 0x12), ([0x1F], .rra)] : List (List Byte × Instr)), whole e.1 = some e.2 := by
  simp only [List.forall_mem_cons]; exact ⟨rfl, rfl, rfl, rfl, rfl, rfl, rfl, rfl, rfl, rfl, rfl, rfl, rfl, rfl, rfl, rfl, by simp⟩

/-- Opcodes 0x20 to 0x2F (R98). -/
theorem test_decode_row_2 : ∀ e ∈ ([
    ([0x20, 0x12], .jr_nz_e8 0x12), ([0x21, 0x34, 0x12], .ld_hl_d16 0x1234), ([0x22], .ld_atHLinc_a), ([0x23], .inc_hl),
    ([0x24], .inc_h), ([0x25], .dec_h), ([0x26, 0x12], .ld_h_d8 0x12), ([0x27], .daa), ([0x28, 0x12], .jr_z_e8 0x12),
    ([0x29], .add_hl_hl), ([0x2A], .ld_a_atHLinc), ([0x2B], .dec_hl), ([0x2C], .inc_l), ([0x2D], .dec_l),
    ([0x2E, 0x12], .ld_l_d8 0x12), ([0x2F], .cpl)] : List (List Byte × Instr)), whole e.1 = some e.2 := by
  simp only [List.forall_mem_cons]; exact ⟨rfl, rfl, rfl, rfl, rfl, rfl, rfl, rfl, rfl, rfl, rfl, rfl, rfl, rfl, rfl, rfl, by simp⟩

/-- Opcodes 0x30 to 0x3F (R98). -/
theorem test_decode_row_3 : ∀ e ∈ ([
    ([0x30, 0x12], .jr_nc_e8 0x12), ([0x31, 0x34, 0x12], .ld_sp_d16 0x1234), ([0x32], .ld_atHLdec_a), ([0x33], .inc_sp),
    ([0x34], .inc_atHL), ([0x35], .dec_atHL), ([0x36, 0x12], .ld_atHL_d8 0x12), ([0x37], .scf),
    ([0x38, 0x12], .jr_c_e8 0x12), ([0x39], .add_hl_sp), ([0x3A], .ld_a_atHLdec), ([0x3B], .dec_sp), ([0x3C], .inc_a),
    ([0x3D], .dec_a), ([0x3E, 0x12], .ld_a_d8 0x12), ([0x3F], .ccf)] : List (List Byte × Instr)), whole e.1 = some e.2 := by
  simp only [List.forall_mem_cons]; exact ⟨rfl, rfl, rfl, rfl, rfl, rfl, rfl, rfl, rfl, rfl, rfl, rfl, rfl, rfl, rfl, rfl, by simp⟩

/-- Opcodes 0x40 to 0x4F (R98). -/
theorem test_decode_row_4 : ∀ e ∈ ([
    ([0x40], .ld_b_b), ([0x41], .ld_b_c), ([0x42], .ld_b_d), ([0x43], .ld_b_e), ([0x44], .ld_b_h), ([0x45], .ld_b_l),
    ([0x46], .ld_b_atHL), ([0x47], .ld_b_a), ([0x48], .ld_c_b), ([0x49], .ld_c_c), ([0x4A], .ld_c_d), ([0x4B], .ld_c_e),
    ([0x4C], .ld_c_h), ([0x4D], .ld_c_l), ([0x4E], .ld_c_atHL), ([0x4F], .ld_c_a)] : List (List Byte × Instr)), whole e.1 = some e.2 := by
  simp only [List.forall_mem_cons]; exact ⟨rfl, rfl, rfl, rfl, rfl, rfl, rfl, rfl, rfl, rfl, rfl, rfl, rfl, rfl, rfl, rfl, by simp⟩

/-- Opcodes 0x50 to 0x5F (R98). -/
theorem test_decode_row_5 : ∀ e ∈ ([
    ([0x50], .ld_d_b), ([0x51], .ld_d_c), ([0x52], .ld_d_d), ([0x53], .ld_d_e), ([0x54], .ld_d_h), ([0x55], .ld_d_l),
    ([0x56], .ld_d_atHL), ([0x57], .ld_d_a), ([0x58], .ld_e_b), ([0x59], .ld_e_c), ([0x5A], .ld_e_d), ([0x5B], .ld_e_e),
    ([0x5C], .ld_e_h), ([0x5D], .ld_e_l), ([0x5E], .ld_e_atHL), ([0x5F], .ld_e_a)] : List (List Byte × Instr)), whole e.1 = some e.2 := by
  simp only [List.forall_mem_cons]; exact ⟨rfl, rfl, rfl, rfl, rfl, rfl, rfl, rfl, rfl, rfl, rfl, rfl, rfl, rfl, rfl, rfl, by simp⟩

/-- Opcodes 0x60 to 0x6F (R98). -/
theorem test_decode_row_6 : ∀ e ∈ ([
    ([0x60], .ld_h_b), ([0x61], .ld_h_c), ([0x62], .ld_h_d), ([0x63], .ld_h_e), ([0x64], .ld_h_h), ([0x65], .ld_h_l),
    ([0x66], .ld_h_atHL), ([0x67], .ld_h_a), ([0x68], .ld_l_b), ([0x69], .ld_l_c), ([0x6A], .ld_l_d), ([0x6B], .ld_l_e),
    ([0x6C], .ld_l_h), ([0x6D], .ld_l_l), ([0x6E], .ld_l_atHL), ([0x6F], .ld_l_a)] : List (List Byte × Instr)), whole e.1 = some e.2 := by
  simp only [List.forall_mem_cons]; exact ⟨rfl, rfl, rfl, rfl, rfl, rfl, rfl, rfl, rfl, rfl, rfl, rfl, rfl, rfl, rfl, rfl, by simp⟩

/-- Opcodes 0x70 to 0x7F (R98). -/
theorem test_decode_row_7 : ∀ e ∈ ([
    ([0x70], .ld_atHL_b), ([0x71], .ld_atHL_c), ([0x72], .ld_atHL_d), ([0x73], .ld_atHL_e), ([0x74], .ld_atHL_h),
    ([0x75], .ld_atHL_l), ([0x76], .halt), ([0x77], .ld_atHL_a), ([0x78], .ld_a_b), ([0x79], .ld_a_c), ([0x7A], .ld_a_d),
    ([0x7B], .ld_a_e), ([0x7C], .ld_a_h), ([0x7D], .ld_a_l), ([0x7E], .ld_a_atHL), ([0x7F], .ld_a_a)] : List (List Byte × Instr)), whole e.1 = some e.2 := by
  simp only [List.forall_mem_cons]; exact ⟨rfl, rfl, rfl, rfl, rfl, rfl, rfl, rfl, rfl, rfl, rfl, rfl, rfl, rfl, rfl, rfl, by simp⟩

/-- Opcodes 0x80 to 0x8F (R98). -/
theorem test_decode_row_8 : ∀ e ∈ ([
    ([0x80], .add_a_b), ([0x81], .add_a_c), ([0x82], .add_a_d), ([0x83], .add_a_e), ([0x84], .add_a_h),
    ([0x85], .add_a_l), ([0x86], .add_a_atHL), ([0x87], .add_a_a), ([0x88], .adc_a_b), ([0x89], .adc_a_c),
    ([0x8A], .adc_a_d), ([0x8B], .adc_a_e), ([0x8C], .adc_a_h), ([0x8D], .adc_a_l), ([0x8E], .adc_a_atHL),
    ([0x8F], .adc_a_a)] : List (List Byte × Instr)), whole e.1 = some e.2 := by
  simp only [List.forall_mem_cons]; exact ⟨rfl, rfl, rfl, rfl, rfl, rfl, rfl, rfl, rfl, rfl, rfl, rfl, rfl, rfl, rfl, rfl, by simp⟩

/-- Opcodes 0x90 to 0x9F (R98). -/
theorem test_decode_row_9 : ∀ e ∈ ([
    ([0x90], .sub_a_b), ([0x91], .sub_a_c), ([0x92], .sub_a_d), ([0x93], .sub_a_e), ([0x94], .sub_a_h),
    ([0x95], .sub_a_l), ([0x96], .sub_a_atHL), ([0x97], .sub_a_a), ([0x98], .sbc_a_b), ([0x99], .sbc_a_c),
    ([0x9A], .sbc_a_d), ([0x9B], .sbc_a_e), ([0x9C], .sbc_a_h), ([0x9D], .sbc_a_l), ([0x9E], .sbc_a_atHL),
    ([0x9F], .sbc_a_a)] : List (List Byte × Instr)), whole e.1 = some e.2 := by
  simp only [List.forall_mem_cons]; exact ⟨rfl, rfl, rfl, rfl, rfl, rfl, rfl, rfl, rfl, rfl, rfl, rfl, rfl, rfl, rfl, rfl, by simp⟩

/-- Opcodes 0xA0 to 0xAF (R98). -/
theorem test_decode_row_a : ∀ e ∈ ([
    ([0xA0], .and_a_b), ([0xA1], .and_a_c), ([0xA2], .and_a_d), ([0xA3], .and_a_e), ([0xA4], .and_a_h),
    ([0xA5], .and_a_l), ([0xA6], .and_a_atHL), ([0xA7], .and_a_a), ([0xA8], .xor_a_b), ([0xA9], .xor_a_c),
    ([0xAA], .xor_a_d), ([0xAB], .xor_a_e), ([0xAC], .xor_a_h), ([0xAD], .xor_a_l), ([0xAE], .xor_a_atHL),
    ([0xAF], .xor_a_a)] : List (List Byte × Instr)), whole e.1 = some e.2 := by
  simp only [List.forall_mem_cons]; exact ⟨rfl, rfl, rfl, rfl, rfl, rfl, rfl, rfl, rfl, rfl, rfl, rfl, rfl, rfl, rfl, rfl, by simp⟩

/-- Opcodes 0xB0 to 0xBF (R98). -/
theorem test_decode_row_b : ∀ e ∈ ([
    ([0xB0], .or_a_b), ([0xB1], .or_a_c), ([0xB2], .or_a_d), ([0xB3], .or_a_e), ([0xB4], .or_a_h), ([0xB5], .or_a_l),
    ([0xB6], .or_a_atHL), ([0xB7], .or_a_a), ([0xB8], .cp_a_b), ([0xB9], .cp_a_c), ([0xBA], .cp_a_d), ([0xBB], .cp_a_e),
    ([0xBC], .cp_a_h), ([0xBD], .cp_a_l), ([0xBE], .cp_a_atHL), ([0xBF], .cp_a_a)] : List (List Byte × Instr)), whole e.1 = some e.2 := by
  simp only [List.forall_mem_cons]; exact ⟨rfl, rfl, rfl, rfl, rfl, rfl, rfl, rfl, rfl, rfl, rfl, rfl, rfl, rfl, rfl, rfl, by simp⟩

/-- Opcodes 0xC0 to 0xCF (R98). -/
theorem test_decode_row_c : ∀ e ∈ ([
    ([0xC0], .ret_nz), ([0xC1], .pop_bc), ([0xC2, 0x34, 0x12], .jp_nz_a16 0x1234), ([0xC3, 0x34, 0x12], .jp_a16 0x1234),
    ([0xC4, 0x34, 0x12], .call_nz_a16 0x1234), ([0xC5], .push_bc), ([0xC6, 0x12], .add_a_d8 0x12), ([0xC7], .rst_00h),
    ([0xC8], .ret_z), ([0xC9], .ret), ([0xCA, 0x34, 0x12], .jp_z_a16 0x1234), ([0xCC, 0x34, 0x12], .call_z_a16 0x1234),
    ([0xCD, 0x34, 0x12], .call_a16 0x1234), ([0xCE, 0x12], .adc_a_d8 0x12), ([0xCF], .rst_08h)] : List (List Byte × Instr)), whole e.1 = some e.2 := by
  simp only [List.forall_mem_cons]; exact ⟨rfl, rfl, rfl, rfl, rfl, rfl, rfl, rfl, rfl, rfl, rfl, rfl, rfl, rfl, rfl, by simp⟩

/-- Opcodes 0xD0 to 0xDF (R98). -/
theorem test_decode_row_d : ∀ e ∈ ([
    ([0xD0], .ret_nc), ([0xD1], .pop_de), ([0xD2, 0x34, 0x12], .jp_nc_a16 0x1234), ([0xD3], .illegal_d3),
    ([0xD4, 0x34, 0x12], .call_nc_a16 0x1234), ([0xD5], .push_de), ([0xD6, 0x12], .sub_a_d8 0x12), ([0xD7], .rst_10h),
    ([0xD8], .ret_c), ([0xD9], .reti), ([0xDA, 0x34, 0x12], .jp_c_a16 0x1234), ([0xDB], .illegal_db),
    ([0xDC, 0x34, 0x12], .call_c_a16 0x1234), ([0xDD], .illegal_dd), ([0xDE, 0x12], .sbc_a_d8 0x12), ([0xDF], .rst_18h)] : List (List Byte × Instr)), whole e.1 = some e.2 := by
  simp only [List.forall_mem_cons]; exact ⟨rfl, rfl, rfl, rfl, rfl, rfl, rfl, rfl, rfl, rfl, rfl, rfl, rfl, rfl, rfl, rfl, by simp⟩

/-- Opcodes 0xE0 to 0xEF (R98). -/
theorem test_decode_row_e : ∀ e ∈ ([
    ([0xE0, 0x12], .ldh_a8_a 0x12), ([0xE1], .pop_hl), ([0xE2], .ld_atC_a), ([0xE3], .illegal_e3), ([0xE4], .illegal_e4),
    ([0xE5], .push_hl), ([0xE6, 0x12], .and_a_d8 0x12), ([0xE7], .rst_20h), ([0xE8, 0x12], .add_sp_e8 0x12),
    ([0xE9], .jp_hl), ([0xEA, 0x34, 0x12], .ld_a16_a 0x1234), ([0xEB], .illegal_eb), ([0xEC], .illegal_ec),
    ([0xED], .illegal_ed), ([0xEE, 0x12], .xor_a_d8 0x12), ([0xEF], .rst_28h)] : List (List Byte × Instr)), whole e.1 = some e.2 := by
  simp only [List.forall_mem_cons]; exact ⟨rfl, rfl, rfl, rfl, rfl, rfl, rfl, rfl, rfl, rfl, rfl, rfl, rfl, rfl, rfl, rfl, by simp⟩

/-- Opcodes 0xF0 to 0xFF (R98). -/
theorem test_decode_row_f : ∀ e ∈ ([
    ([0xF0, 0x12], .ldh_a_a8 0x12), ([0xF1], .pop_af), ([0xF2], .ld_a_atC), ([0xF3], .di), ([0xF4], .illegal_f4),
    ([0xF5], .push_af), ([0xF6, 0x12], .or_a_d8 0x12), ([0xF7], .rst_30h), ([0xF8, 0x12], .ld_hl_sp_e8 0x12),
    ([0xF9], .ld_sp_hl), ([0xFA, 0x34, 0x12], .ld_a_a16 0x1234), ([0xFB], .ei), ([0xFC], .illegal_fc),
    ([0xFD], .illegal_fd), ([0xFE, 0x12], .cp_a_d8 0x12), ([0xFF], .rst_38h)] : List (List Byte × Instr)), whole e.1 = some e.2 := by
  simp only [List.forall_mem_cons]; exact ⟨rfl, rfl, rfl, rfl, rfl, rfl, rfl, rfl, rfl, rfl, rfl, rfl, rfl, rfl, rfl, rfl, by simp⟩

/-- Opcodes 0xCB 0x00 to 0xCB 0x0F (R99). -/
theorem test_decode_cb_row_0 : ∀ e ∈ ([
    ([0xCB, 0x00], .rlc_b), ([0xCB, 0x01], .rlc_c), ([0xCB, 0x02], .rlc_d), ([0xCB, 0x03], .rlc_e),
    ([0xCB, 0x04], .rlc_h), ([0xCB, 0x05], .rlc_l), ([0xCB, 0x06], .rlc_atHL), ([0xCB, 0x07], .rlc_a),
    ([0xCB, 0x08], .rrc_b), ([0xCB, 0x09], .rrc_c), ([0xCB, 0x0A], .rrc_d), ([0xCB, 0x0B], .rrc_e),
    ([0xCB, 0x0C], .rrc_h), ([0xCB, 0x0D], .rrc_l), ([0xCB, 0x0E], .rrc_atHL), ([0xCB, 0x0F], .rrc_a)] : List (List Byte × Instr)), whole e.1 = some e.2 := by
  simp only [List.forall_mem_cons]; exact ⟨rfl, rfl, rfl, rfl, rfl, rfl, rfl, rfl, rfl, rfl, rfl, rfl, rfl, rfl, rfl, rfl, by simp⟩

/-- Opcodes 0xCB 0x10 to 0xCB 0x1F (R99). -/
theorem test_decode_cb_row_1 : ∀ e ∈ ([
    ([0xCB, 0x10], .rl_b), ([0xCB, 0x11], .rl_c), ([0xCB, 0x12], .rl_d), ([0xCB, 0x13], .rl_e), ([0xCB, 0x14], .rl_h),
    ([0xCB, 0x15], .rl_l), ([0xCB, 0x16], .rl_atHL), ([0xCB, 0x17], .rl_a), ([0xCB, 0x18], .rr_b), ([0xCB, 0x19], .rr_c),
    ([0xCB, 0x1A], .rr_d), ([0xCB, 0x1B], .rr_e), ([0xCB, 0x1C], .rr_h), ([0xCB, 0x1D], .rr_l), ([0xCB, 0x1E], .rr_atHL),
    ([0xCB, 0x1F], .rr_a)] : List (List Byte × Instr)), whole e.1 = some e.2 := by
  simp only [List.forall_mem_cons]; exact ⟨rfl, rfl, rfl, rfl, rfl, rfl, rfl, rfl, rfl, rfl, rfl, rfl, rfl, rfl, rfl, rfl, by simp⟩

/-- Opcodes 0xCB 0x20 to 0xCB 0x2F (R99). -/
theorem test_decode_cb_row_2 : ∀ e ∈ ([
    ([0xCB, 0x20], .sla_b), ([0xCB, 0x21], .sla_c), ([0xCB, 0x22], .sla_d), ([0xCB, 0x23], .sla_e),
    ([0xCB, 0x24], .sla_h), ([0xCB, 0x25], .sla_l), ([0xCB, 0x26], .sla_atHL), ([0xCB, 0x27], .sla_a),
    ([0xCB, 0x28], .sra_b), ([0xCB, 0x29], .sra_c), ([0xCB, 0x2A], .sra_d), ([0xCB, 0x2B], .sra_e),
    ([0xCB, 0x2C], .sra_h), ([0xCB, 0x2D], .sra_l), ([0xCB, 0x2E], .sra_atHL), ([0xCB, 0x2F], .sra_a)] : List (List Byte × Instr)), whole e.1 = some e.2 := by
  simp only [List.forall_mem_cons]; exact ⟨rfl, rfl, rfl, rfl, rfl, rfl, rfl, rfl, rfl, rfl, rfl, rfl, rfl, rfl, rfl, rfl, by simp⟩

/-- Opcodes 0xCB 0x30 to 0xCB 0x3F (R99). -/
theorem test_decode_cb_row_3 : ∀ e ∈ ([
    ([0xCB, 0x30], .swap_b), ([0xCB, 0x31], .swap_c), ([0xCB, 0x32], .swap_d), ([0xCB, 0x33], .swap_e),
    ([0xCB, 0x34], .swap_h), ([0xCB, 0x35], .swap_l), ([0xCB, 0x36], .swap_atHL), ([0xCB, 0x37], .swap_a),
    ([0xCB, 0x38], .srl_b), ([0xCB, 0x39], .srl_c), ([0xCB, 0x3A], .srl_d), ([0xCB, 0x3B], .srl_e),
    ([0xCB, 0x3C], .srl_h), ([0xCB, 0x3D], .srl_l), ([0xCB, 0x3E], .srl_atHL), ([0xCB, 0x3F], .srl_a)] : List (List Byte × Instr)), whole e.1 = some e.2 := by
  simp only [List.forall_mem_cons]; exact ⟨rfl, rfl, rfl, rfl, rfl, rfl, rfl, rfl, rfl, rfl, rfl, rfl, rfl, rfl, rfl, rfl, by simp⟩

/-- Opcodes 0xCB 0x40 to 0xCB 0x4F (R99). -/
theorem test_decode_cb_row_4 : ∀ e ∈ ([
    ([0xCB, 0x40], .bit_0_b), ([0xCB, 0x41], .bit_0_c), ([0xCB, 0x42], .bit_0_d), ([0xCB, 0x43], .bit_0_e),
    ([0xCB, 0x44], .bit_0_h), ([0xCB, 0x45], .bit_0_l), ([0xCB, 0x46], .bit_0_atHL), ([0xCB, 0x47], .bit_0_a),
    ([0xCB, 0x48], .bit_1_b), ([0xCB, 0x49], .bit_1_c), ([0xCB, 0x4A], .bit_1_d), ([0xCB, 0x4B], .bit_1_e),
    ([0xCB, 0x4C], .bit_1_h), ([0xCB, 0x4D], .bit_1_l), ([0xCB, 0x4E], .bit_1_atHL), ([0xCB, 0x4F], .bit_1_a)] : List (List Byte × Instr)), whole e.1 = some e.2 := by
  simp only [List.forall_mem_cons]; exact ⟨rfl, rfl, rfl, rfl, rfl, rfl, rfl, rfl, rfl, rfl, rfl, rfl, rfl, rfl, rfl, rfl, by simp⟩

/-- Opcodes 0xCB 0x50 to 0xCB 0x5F (R99). -/
theorem test_decode_cb_row_5 : ∀ e ∈ ([
    ([0xCB, 0x50], .bit_2_b), ([0xCB, 0x51], .bit_2_c), ([0xCB, 0x52], .bit_2_d), ([0xCB, 0x53], .bit_2_e),
    ([0xCB, 0x54], .bit_2_h), ([0xCB, 0x55], .bit_2_l), ([0xCB, 0x56], .bit_2_atHL), ([0xCB, 0x57], .bit_2_a),
    ([0xCB, 0x58], .bit_3_b), ([0xCB, 0x59], .bit_3_c), ([0xCB, 0x5A], .bit_3_d), ([0xCB, 0x5B], .bit_3_e),
    ([0xCB, 0x5C], .bit_3_h), ([0xCB, 0x5D], .bit_3_l), ([0xCB, 0x5E], .bit_3_atHL), ([0xCB, 0x5F], .bit_3_a)] : List (List Byte × Instr)), whole e.1 = some e.2 := by
  simp only [List.forall_mem_cons]; exact ⟨rfl, rfl, rfl, rfl, rfl, rfl, rfl, rfl, rfl, rfl, rfl, rfl, rfl, rfl, rfl, rfl, by simp⟩

/-- Opcodes 0xCB 0x60 to 0xCB 0x6F (R99). -/
theorem test_decode_cb_row_6 : ∀ e ∈ ([
    ([0xCB, 0x60], .bit_4_b), ([0xCB, 0x61], .bit_4_c), ([0xCB, 0x62], .bit_4_d), ([0xCB, 0x63], .bit_4_e),
    ([0xCB, 0x64], .bit_4_h), ([0xCB, 0x65], .bit_4_l), ([0xCB, 0x66], .bit_4_atHL), ([0xCB, 0x67], .bit_4_a),
    ([0xCB, 0x68], .bit_5_b), ([0xCB, 0x69], .bit_5_c), ([0xCB, 0x6A], .bit_5_d), ([0xCB, 0x6B], .bit_5_e),
    ([0xCB, 0x6C], .bit_5_h), ([0xCB, 0x6D], .bit_5_l), ([0xCB, 0x6E], .bit_5_atHL), ([0xCB, 0x6F], .bit_5_a)] : List (List Byte × Instr)), whole e.1 = some e.2 := by
  simp only [List.forall_mem_cons]; exact ⟨rfl, rfl, rfl, rfl, rfl, rfl, rfl, rfl, rfl, rfl, rfl, rfl, rfl, rfl, rfl, rfl, by simp⟩

/-- Opcodes 0xCB 0x70 to 0xCB 0x7F (R99). -/
theorem test_decode_cb_row_7 : ∀ e ∈ ([
    ([0xCB, 0x70], .bit_6_b), ([0xCB, 0x71], .bit_6_c), ([0xCB, 0x72], .bit_6_d), ([0xCB, 0x73], .bit_6_e),
    ([0xCB, 0x74], .bit_6_h), ([0xCB, 0x75], .bit_6_l), ([0xCB, 0x76], .bit_6_atHL), ([0xCB, 0x77], .bit_6_a),
    ([0xCB, 0x78], .bit_7_b), ([0xCB, 0x79], .bit_7_c), ([0xCB, 0x7A], .bit_7_d), ([0xCB, 0x7B], .bit_7_e),
    ([0xCB, 0x7C], .bit_7_h), ([0xCB, 0x7D], .bit_7_l), ([0xCB, 0x7E], .bit_7_atHL), ([0xCB, 0x7F], .bit_7_a)] : List (List Byte × Instr)), whole e.1 = some e.2 := by
  simp only [List.forall_mem_cons]; exact ⟨rfl, rfl, rfl, rfl, rfl, rfl, rfl, rfl, rfl, rfl, rfl, rfl, rfl, rfl, rfl, rfl, by simp⟩

/-- Opcodes 0xCB 0x80 to 0xCB 0x8F (R99). -/
theorem test_decode_cb_row_8 : ∀ e ∈ ([
    ([0xCB, 0x80], .res_0_b), ([0xCB, 0x81], .res_0_c), ([0xCB, 0x82], .res_0_d), ([0xCB, 0x83], .res_0_e),
    ([0xCB, 0x84], .res_0_h), ([0xCB, 0x85], .res_0_l), ([0xCB, 0x86], .res_0_atHL), ([0xCB, 0x87], .res_0_a),
    ([0xCB, 0x88], .res_1_b), ([0xCB, 0x89], .res_1_c), ([0xCB, 0x8A], .res_1_d), ([0xCB, 0x8B], .res_1_e),
    ([0xCB, 0x8C], .res_1_h), ([0xCB, 0x8D], .res_1_l), ([0xCB, 0x8E], .res_1_atHL), ([0xCB, 0x8F], .res_1_a)] : List (List Byte × Instr)), whole e.1 = some e.2 := by
  simp only [List.forall_mem_cons]; exact ⟨rfl, rfl, rfl, rfl, rfl, rfl, rfl, rfl, rfl, rfl, rfl, rfl, rfl, rfl, rfl, rfl, by simp⟩

/-- Opcodes 0xCB 0x90 to 0xCB 0x9F (R99). -/
theorem test_decode_cb_row_9 : ∀ e ∈ ([
    ([0xCB, 0x90], .res_2_b), ([0xCB, 0x91], .res_2_c), ([0xCB, 0x92], .res_2_d), ([0xCB, 0x93], .res_2_e),
    ([0xCB, 0x94], .res_2_h), ([0xCB, 0x95], .res_2_l), ([0xCB, 0x96], .res_2_atHL), ([0xCB, 0x97], .res_2_a),
    ([0xCB, 0x98], .res_3_b), ([0xCB, 0x99], .res_3_c), ([0xCB, 0x9A], .res_3_d), ([0xCB, 0x9B], .res_3_e),
    ([0xCB, 0x9C], .res_3_h), ([0xCB, 0x9D], .res_3_l), ([0xCB, 0x9E], .res_3_atHL), ([0xCB, 0x9F], .res_3_a)] : List (List Byte × Instr)), whole e.1 = some e.2 := by
  simp only [List.forall_mem_cons]; exact ⟨rfl, rfl, rfl, rfl, rfl, rfl, rfl, rfl, rfl, rfl, rfl, rfl, rfl, rfl, rfl, rfl, by simp⟩

/-- Opcodes 0xCB 0xA0 to 0xCB 0xAF (R99). -/
theorem test_decode_cb_row_a : ∀ e ∈ ([
    ([0xCB, 0xA0], .res_4_b), ([0xCB, 0xA1], .res_4_c), ([0xCB, 0xA2], .res_4_d), ([0xCB, 0xA3], .res_4_e),
    ([0xCB, 0xA4], .res_4_h), ([0xCB, 0xA5], .res_4_l), ([0xCB, 0xA6], .res_4_atHL), ([0xCB, 0xA7], .res_4_a),
    ([0xCB, 0xA8], .res_5_b), ([0xCB, 0xA9], .res_5_c), ([0xCB, 0xAA], .res_5_d), ([0xCB, 0xAB], .res_5_e),
    ([0xCB, 0xAC], .res_5_h), ([0xCB, 0xAD], .res_5_l), ([0xCB, 0xAE], .res_5_atHL), ([0xCB, 0xAF], .res_5_a)] : List (List Byte × Instr)), whole e.1 = some e.2 := by
  simp only [List.forall_mem_cons]; exact ⟨rfl, rfl, rfl, rfl, rfl, rfl, rfl, rfl, rfl, rfl, rfl, rfl, rfl, rfl, rfl, rfl, by simp⟩

/-- Opcodes 0xCB 0xB0 to 0xCB 0xBF (R99). -/
theorem test_decode_cb_row_b : ∀ e ∈ ([
    ([0xCB, 0xB0], .res_6_b), ([0xCB, 0xB1], .res_6_c), ([0xCB, 0xB2], .res_6_d), ([0xCB, 0xB3], .res_6_e),
    ([0xCB, 0xB4], .res_6_h), ([0xCB, 0xB5], .res_6_l), ([0xCB, 0xB6], .res_6_atHL), ([0xCB, 0xB7], .res_6_a),
    ([0xCB, 0xB8], .res_7_b), ([0xCB, 0xB9], .res_7_c), ([0xCB, 0xBA], .res_7_d), ([0xCB, 0xBB], .res_7_e),
    ([0xCB, 0xBC], .res_7_h), ([0xCB, 0xBD], .res_7_l), ([0xCB, 0xBE], .res_7_atHL), ([0xCB, 0xBF], .res_7_a)] : List (List Byte × Instr)), whole e.1 = some e.2 := by
  simp only [List.forall_mem_cons]; exact ⟨rfl, rfl, rfl, rfl, rfl, rfl, rfl, rfl, rfl, rfl, rfl, rfl, rfl, rfl, rfl, rfl, by simp⟩

/-- Opcodes 0xCB 0xC0 to 0xCB 0xCF (R99). -/
theorem test_decode_cb_row_c : ∀ e ∈ ([
    ([0xCB, 0xC0], .set_0_b), ([0xCB, 0xC1], .set_0_c), ([0xCB, 0xC2], .set_0_d), ([0xCB, 0xC3], .set_0_e),
    ([0xCB, 0xC4], .set_0_h), ([0xCB, 0xC5], .set_0_l), ([0xCB, 0xC6], .set_0_atHL), ([0xCB, 0xC7], .set_0_a),
    ([0xCB, 0xC8], .set_1_b), ([0xCB, 0xC9], .set_1_c), ([0xCB, 0xCA], .set_1_d), ([0xCB, 0xCB], .set_1_e),
    ([0xCB, 0xCC], .set_1_h), ([0xCB, 0xCD], .set_1_l), ([0xCB, 0xCE], .set_1_atHL), ([0xCB, 0xCF], .set_1_a)] : List (List Byte × Instr)), whole e.1 = some e.2 := by
  simp only [List.forall_mem_cons]; exact ⟨rfl, rfl, rfl, rfl, rfl, rfl, rfl, rfl, rfl, rfl, rfl, rfl, rfl, rfl, rfl, rfl, by simp⟩

/-- Opcodes 0xCB 0xD0 to 0xCB 0xDF (R99). -/
theorem test_decode_cb_row_d : ∀ e ∈ ([
    ([0xCB, 0xD0], .set_2_b), ([0xCB, 0xD1], .set_2_c), ([0xCB, 0xD2], .set_2_d), ([0xCB, 0xD3], .set_2_e),
    ([0xCB, 0xD4], .set_2_h), ([0xCB, 0xD5], .set_2_l), ([0xCB, 0xD6], .set_2_atHL), ([0xCB, 0xD7], .set_2_a),
    ([0xCB, 0xD8], .set_3_b), ([0xCB, 0xD9], .set_3_c), ([0xCB, 0xDA], .set_3_d), ([0xCB, 0xDB], .set_3_e),
    ([0xCB, 0xDC], .set_3_h), ([0xCB, 0xDD], .set_3_l), ([0xCB, 0xDE], .set_3_atHL), ([0xCB, 0xDF], .set_3_a)] : List (List Byte × Instr)), whole e.1 = some e.2 := by
  simp only [List.forall_mem_cons]; exact ⟨rfl, rfl, rfl, rfl, rfl, rfl, rfl, rfl, rfl, rfl, rfl, rfl, rfl, rfl, rfl, rfl, by simp⟩

/-- Opcodes 0xCB 0xE0 to 0xCB 0xEF (R99). -/
theorem test_decode_cb_row_e : ∀ e ∈ ([
    ([0xCB, 0xE0], .set_4_b), ([0xCB, 0xE1], .set_4_c), ([0xCB, 0xE2], .set_4_d), ([0xCB, 0xE3], .set_4_e),
    ([0xCB, 0xE4], .set_4_h), ([0xCB, 0xE5], .set_4_l), ([0xCB, 0xE6], .set_4_atHL), ([0xCB, 0xE7], .set_4_a),
    ([0xCB, 0xE8], .set_5_b), ([0xCB, 0xE9], .set_5_c), ([0xCB, 0xEA], .set_5_d), ([0xCB, 0xEB], .set_5_e),
    ([0xCB, 0xEC], .set_5_h), ([0xCB, 0xED], .set_5_l), ([0xCB, 0xEE], .set_5_atHL), ([0xCB, 0xEF], .set_5_a)] : List (List Byte × Instr)), whole e.1 = some e.2 := by
  simp only [List.forall_mem_cons]; exact ⟨rfl, rfl, rfl, rfl, rfl, rfl, rfl, rfl, rfl, rfl, rfl, rfl, rfl, rfl, rfl, rfl, by simp⟩

/-- Opcodes 0xCB 0xF0 to 0xCB 0xFF (R99). -/
theorem test_decode_cb_row_f : ∀ e ∈ ([
    ([0xCB, 0xF0], .set_6_b), ([0xCB, 0xF1], .set_6_c), ([0xCB, 0xF2], .set_6_d), ([0xCB, 0xF3], .set_6_e),
    ([0xCB, 0xF4], .set_6_h), ([0xCB, 0xF5], .set_6_l), ([0xCB, 0xF6], .set_6_atHL), ([0xCB, 0xF7], .set_6_a),
    ([0xCB, 0xF8], .set_7_b), ([0xCB, 0xF9], .set_7_c), ([0xCB, 0xFA], .set_7_d), ([0xCB, 0xFB], .set_7_e),
    ([0xCB, 0xFC], .set_7_h), ([0xCB, 0xFD], .set_7_l), ([0xCB, 0xFE], .set_7_atHL), ([0xCB, 0xFF], .set_7_a)] : List (List Byte × Instr)), whole e.1 = some e.2 := by
  simp only [List.forall_mem_cons]; exact ⟨rfl, rfl, rfl, rfl, rfl, rfl, rfl, rfl, rfl, rfl, rfl, rfl, rfl, rfl, rfl, rfl, by simp⟩

theorem test_decode_lone_escape : whole [0xCB] = some .prefix_cb := rfl

/-- An operand byte the format needs and the sequence does not hold: refused by name. -/
theorem test_decode_refuses : decode [] = .error .noBytes ∧ decode [0x06] = .error (.missingOperand 0x06) ∧
    decode [0x01, 0x34] = .error (.missingOperand 0x01) := ⟨rfl, rfl, rfl⟩

/-- The table's words: bit 0 is the least significant bit of the first byte, and a row of the 0xCB table is `0xCB00 + op2` (R104). -/
theorem test_decodeTableWord : decodeTableWord 8 0x41 = some .ld_b_c ∧ decodeTableWord 24 0x123401 = some (.ld_bc_d16 0x1234) ∧
    decodeTableWord 8 0x01 = some (.ld_bc_d16 0) ∧ decodeTableWord 16 0xCBFE = some .set_7_atHL ∧
    decodeTableWord 8 0xCB = some .prefix_cb ∧ decodeTableWord 8 0xD3 = some .illegal_d3 := by decide

/-! ### Registers and memory: 95_test_vectors.md S1, S2, V1 to V12 -/

theorem test_S1_pairs :
    (core0.setPair .de 0xBEEF).d = 0xBE ∧ (core0.setPair .de 0xBEEF).e = 0xEF ∧
    (core0.setPair2 .af 0x12FF).a = 0x12 ∧ (core0.setPair2 .af 0x12FF).pair2 .af = 0x12F0 := by decide

theorem test_S2_push_pop_wraps :
    let t := pushWord 0xABCD { core0 with sp := 0x0001 }
    t.sp = 0xFFFF ∧ t.read 0xFFFF = 0xCD ∧ t.read 0x0000 = 0xAB ∧ popValue t = 0xABCD ∧ (popState t).sp = 0x0001 := by decide

theorem test_V1_V4_registers :
    (core0.setPair .bc 0x00FF).b = 0x00 ∧ (core0.setPair .bc 0x00FF).c = 0xFF ∧
    ({ core0 with h := 0x12, l := 0x34 } : State).pair .hl = 0x1234 ∧
    (core0.setPair2 .af 0xFFFF).a = 0xFF ∧ flagsToByte (core0.setPair2 .af 0xFFFF).flags = 0xF0 ∧
    fl 0xB0 = ⟨true, false, true, true⟩ := by decide

theorem test_V5_V7_words :
    ((core0.write 0xC000 0x34).write 0xC001 0x12).readWord 0xC000 = 0x1234 ∧
    ((core0.write 0xFFFF 0xCD).write 0x0000 0xAB).readWord 0xFFFF = 0xABCD ∧
    (core0.writeWord 0xFFFF 0x1234).read 0xFFFF = 0x34 ∧ (core0.writeWord 0xFFFF 0x1234).read 0x0000 = 0x12 := by decide

theorem test_V8_V9_image : Memory.ofImage [0x3E, 0x01] = [(0, 0x3E), (1, 0x01)] ∧ Memory.ofImage [] = [] ∧
    Memory.read (Memory.ofImage [0x3E, 0x01]) 0xFFFF = 0x00 := by decide

/-- Writing 0, which an unlisted address reads as, removes the entry. -/
theorem test_memory_canonical :
    ((core0.write 0xC000 0x34).write 0x0150 0x77).mem = [(0x0150, 0x77), (0xC000, 0x34)] ∧
    ((core0.write 0xC000 0x34).write 0xC000 0x00).mem = [] := by decide

theorem test_V12_ppu_window : (core0.write 0xFF44 0x99).ppu = core0.ppu ∧ (core0.write 0xFFFF 0x99).ime = core0.ime := by decide

/-! ### Loads: V13 to V36 -/

theorem test_V13_V14_ld_r_r :
    runs [0x48] { core0 with b := 0x12 } (fun t => { t with c := 0x12, pc := 0x0101 }) = true ∧
    runs [0x7F] { core0 with a := 0x5A } (fun t => { t with pc := 0x0101 }) = true := by decide

theorem test_V15_V17_ld_imm :
    runs [0x06, 0x42] core0 (fun t => { t with b := 0x42, pc := 0x0102 }) = true ∧
    runs [0x31, 0xFE, 0xFF] core0 (fun t => { t with sp := 0xFFFE, pc := 0x0103 }) = true ∧
    runs [0x01, 0x34, 0x12] { core0 with pc := 0xFFFE } (fun t => { t with b := 0x12, c := 0x34, pc := 0x0001 }) = true := by decide

theorem test_V18_V20_ld_hl :
    runs [0x66] ({ core0 with h := 0xC0 }.write 0xC000 0x55) (fun t => { t with h := 0x55, pc := 0x0101 }) = true ∧
    runs [0x74] { core0 with h := 0xC0, l := 0x12 } (fun t => { t with pc := 0x0101 }.write 0xC012 0xC0) = true ∧
    runs [0x36, 0x7F] { core0 with h := 0xC0 } (fun t => { t with pc := 0x0102 }.write 0xC000 0x7F) = true := by decide

theorem test_V21_V22_ld_a_at :
    runs [0x0A] ({ core0 with b := 0x80 }.write 0x8000 0x01) (fun t => { t with a := 0x01, pc := 0x0101 }) = true ∧
    runs [0x1A] ({ core0 with d := 0x12, e := 0x34 }.write 0x1234 0xAB) (fun t => { t with a := 0xAB, pc := 0x0101 }) = true := by
  decide

theorem test_V23_V24_ld_at_a :
    runs [0x02] { core0 with a := 0x55 } (fun t => { t with pc := 0x0101 }.write 0x0000 0x55) = true ∧
    runs [0x12] { core0 with d := 0xC1, a := 0x0F } (fun t => { t with pc := 0x0101 }.write 0xC100 0x0F) = true := by decide

theorem test_V25_V26_ld_a16 :
    runs [0xFA, 0x00, 0xC0] (core0.write 0xC000 0x3C) (fun t => { t with a := 0x3C, pc := 0x0103 }) = true ∧
    runs [0xEA, 0x40, 0xFF] { core0 with a := 0x91 } (fun t => { t with pc := 0x0103 }.write 0xFF40 0x91) = true := by decide

theorem test_V27_V28_ld_hl_post :
    runs [0x22] { core0 with h := 0xFF, l := 0xFF, a := 0x3C }
      (fun t => { t with h := 0, l := 0, pc := 0x0101 }.write 0xFFFF 0x3C) = true ∧
    runs [0x32] { core0 with h := 0xDF, l := 0xFF, a := 0x01 }
      (fun t => { t with h := 0xDF, l := 0xFE, pc := 0x0101 }.write 0xDFFF 0x01) = true := by decide

theorem test_V29_V30_ld_a_hl_post :
    runs [0x2A] ({ core0 with h := 0x40 }.write 0x4000 0x77)
      (fun t => { t with a := 0x77, h := 0x40, l := 0x01, pc := 0x0101 }) = true ∧
    runs [0x3A] (core0.write 0x0000 0x31) (fun t => { t with a := 0x31, h := 0xFF, l := 0xFF, pc := 0x0101 }) = true := by decide

theorem test_V31_V32_ld_sp :
    runs [0x08, 0xFF, 0xFF] { core0 with sp := 0xABCD }
      (fun t => ({ t with pc := 0x0103 }.write 0xFFFF 0xCD).write 0x0000 0xAB) = true ∧
    runs [0xF9] { core0 with h := 0xDF, l := 0xF0 } (fun t => { t with sp := 0xDFF0, pc := 0x0101 }) = true := by decide

theorem test_V33_V36_ldh :
    runs [0xE0, 0xFF] { core0 with a := 0x91 } (fun t => { t with pc := 0x0102 }.write 0xFFFF 0x91) = true ∧
    runs [0xF0, 0x00] (core0.write 0xFF00 0xCF) (fun t => { t with a := 0xCF, pc := 0x0102 }) = true ∧
    runs [0xE2] { core0 with c := 0xFF, a := 0xE4 } (fun t => { t with pc := 0x0101 }.write 0xFFFF 0xE4) = true ∧
    runs [0xF2] ({ core0 with c := 0x80 }.write 0xFF80 0x21) (fun t => { t with a := 0x21, pc := 0x0101 }) = true := by decide

/-! ### Increment and decrement: V37 to V46 -/

theorem test_V37_V38_inc :
    incDecVector [0x3C] { core0 with a := 0x0F } (fun t => { t with a := 0x10, pc := 0x0101 }) 0x30 = true ∧
    incDecVector [0x04] { core0 with b := 0xFF } (fun t => { t with b := 0x00, pc := 0x0101 }) 0xB0 = true := by decide

theorem test_V39_V41_dec :
    incDecVector [0x3D] { core0 with a := 0x10 } (fun t => { t with a := 0x0F, pc := 0x0101 }) 0x70 = true ∧
    incDecVector [0x0D] { core0 with c := 0x01 } (fun t => { t with c := 0x00, pc := 0x0101 }) 0xD0 = true ∧
    incDecVector [0x1D] { core0 with e := 0x00 } (fun t => { t with e := 0xFF, pc := 0x0101 }) 0x70 = true := by decide

theorem test_V42_V43_incdec_hl :
    incDecVector [0x34] ({ core0 with h := 0xC0 }.write 0xC000 0xFF) (fun t => { t with pc := 0x0101 }.write 0xC000 0x00) 0xB0 = true ∧
    incDecVector [0x35] { core0 with h := 0xC0 } (fun t => { t with pc := 0x0101 }.write 0xC000 0xFF) 0x70 = true := by decide

theorem test_V44_V46_incdec_pair :
    incDecVector [0x23] { core0 with h := 0x12, l := 0xFF } (fun t => { t with h := 0x13, l := 0x00, pc := 0x0101 }) 0x10 = true ∧
    incDecVector [0x33] { core0 with sp := 0xFFFF } (fun t => { t with sp := 0x0000, pc := 0x0101 }) 0x10 = true ∧
    incDecVector [0x0B] core0 (fun t => { t with b := 0xFF, c := 0xFF, pc := 0x0101 }) 0x10 = true := by decide

/-! ### Control transfer and stack: V47 to V68, S5, S6 -/

theorem test_V47_V50_jr :
    runs [0x18, 0x00] core0 (fun t => { t with pc := 0x0102 }) = true ∧
    runs [0x18, 0xFE] core0 (fun t => { t with pc := 0x0100 }) = true ∧
    runs [0x18, 0x80] core0 (fun t => { t with pc := 0x0082 }) = true ∧
    runs [0x18, 0x7F] core0 (fun t => { t with pc := 0x0181 }) = true := by decide

theorem test_S5_V51_V54_jr_range :
    runs [0x18, 0x20] { core0 with pc := 0xFFEE } (fun t => { t with pc := 0xFFF0, runState := .faulted .jumpRange }) = true ∧
    runs [0x18, 0xFD] { core0 with pc := 0x0000 } (fun t => { t with pc := 0x0002, runState := .faulted .jumpRange }) = true ∧
    runs [0x18, 0x01] { core0 with pc := 0xFFFE } (fun t => { t with pc := 0x0001 }) = true ∧
    runs [0x18, 0xFF] { core0 with pc := 0xFFFE } (fun t => { t with pc := 0x0000, runState := .faulted .jumpRange }) = true ∧
    runs [0x18, 0x7F] { core0 with pc := 0xFFFD } (fun t => { t with pc := 0xFFFF, runState := .faulted .jumpRange }) = true := by
  decide

theorem test_V55_jp : runs [0xC3, 0x50, 0x01] core0 (fun t => { t with pc := 0x0150 }) = true := by decide

theorem test_S6_V57_call :
    runs [0xCD, 0x00, 0x01] { core0 with pc := 0x0050 }
      (fun t => { t with pc := 0x0100, sp := 0xFFFC }.write 0xFFFC 0x53) = true ∧
    runs [0xCD, 0x34, 0x12] { core0 with pc := 0x0200, sp := 0x0001 }
      (fun t => ({ t with pc := 0x1234, sp := 0xFFFF }.write 0xFFFF 0x03).write 0x0000 0x02) = true := by decide

theorem test_V58_V59_ret :
    runs [0xC9] ({ core0 with sp := 0xFFFC }.write 0xFFFC 0x53) (fun t => { t with pc := 0x0053, sp := 0xFFFE }) = true ∧
    runs [0xD9] (({ core0 with sp := 0xFFFC }.write 0xFFFC 0x34).write 0xFFFD 0x12)
      (fun t => { t with pc := 0x1234, sp := 0xFFFE, ime := true }) = true := by decide

theorem test_V60_V61_rst :
    runs [0xFF] { core0 with pc := 0x0200 }
      (fun t => ({ t with pc := 0x0038, sp := 0xFFFC }.write 0xFFFC 0x01).write 0xFFFD 0x02) = true ∧
    runs [0xC7] { core0 with pc := 0x0000 } (fun t => { t with pc := 0x0000, sp := 0xFFFC }.write 0xFFFC 0x01) = true := by decide

theorem test_V62_V149_extension_is_gated :
    runs [0xC2, 0x00, 0x20] { core0 with flags := fl 0x80 } (fun t => { t with runState := .faulted .decode }) = true ∧
    runs [0xCB, 0x7C] core0 (fun t => { t with runState := .faulted .decode }) = true := by decide

theorem test_V63_V64_V68_push :
    runs [0xC5] { core0 with b := 0x12, c := 0x34 }
      (fun t => ({ t with sp := 0xFFFC, pc := 0x0101 }.write 0xFFFC 0x34).write 0xFFFD 0x12) = true ∧
    runs [0xF5] { core0 with a := 0x01, flags := fl 0xB0 }
      (fun t => ({ t with sp := 0xFFFC, pc := 0x0101 }.write 0xFFFC 0xB0).write 0xFFFD 0x01) = true ∧
    runs [0xE5] { core0 with h := 0xAB, l := 0xCD, sp := 0x0001 }
      (fun t => ({ t with sp := 0xFFFF, pc := 0x0101 }.write 0xFFFF 0xCD).write 0x0000 0xAB) = true := by decide

theorem test_V65_V67_pop :
    runs [0xF1] (({ core0 with sp := 0xFFFC, a := 0x77 }.write 0xFFFC 0xFF).write 0xFFFD 0x00)
      (fun t => { t with a := 0x00, flags := fl 0xF0, sp := 0xFFFE, pc := 0x0101 }) = true ∧
    runs [0xF1] (({ core0 with sp := 0xFFFC }.write 0xFFFC 0x3F).write 0xFFFD 0x42)
      (fun t => { t with a := 0x42, flags := fl 0x30, sp := 0xFFFE, pc := 0x0101 }) = true ∧
    runs [0xD1] (({ core0 with sp := 0xFFFF }.write 0xFFFF 0x78).write 0x0000 0x56)
      (fun t => { t with d := 0x56, e := 0x78, sp := 0x0001, pc := 0x0101 }) = true := by decide

/-! ### System: V69 to V76 -/

theorem test_V69_V70_nop :
    runs [0x00] core0 (fun t => { t with pc := 0x0101 }) = true ∧
    runs [0x00] { core0 with pc := 0xFFFF } (fun t => { t with pc := 0x0000 }) = true := by decide

theorem test_V71_V72_ime :
    runs [0xFB] core0 (fun t => { t with ime := true, pc := 0x0101 }) = true ∧
    runs [0xF3] { core0 with ime := true } (fun t => { t with ime := false, pc := 0x0101 }) = true := by decide

theorem test_V73_V75_halt_stop :
    runs [0x76] { core0 with pc := 0x0105 } (fun t => { t with runState := .halted .halt, pc := 0x0106 }) = true ∧
    runs [0x10, 0x00] { core0 with pc := 0x0200 } (fun t => { t with runState := .halted .stop, pc := 0x0202 }) = true ∧
    runs [0x10, 0xFF] { core0 with pc := 0x0200 } (fun t => { t with runState := .halted .stop, pc := 0x0202 }) = true := by decide

theorem test_V76_V152_terminal :
    runs [0x04] { core0 with runState := .halted .halt } id = true ∧
    runs [0x04] { core0 with runState := .faulted .decode } id = true := by decide

/-! ### ALU: S3, S4, V77 to V107 -/

theorem test_V77_V82_add :
    [(0xC6, 0x0F, 0x01, true, 0x10, 0x20), (0xC6, 0xFF, 0x01, true, 0x00, 0xB0), (0xC6, 0x80, 0x80, false, 0x00, 0x90),
     (0xC6, 0x00, 0x00, false, 0x00, 0x80), (0xC6, 0x7F, 0x01, true, 0x80, 0x20),
     (0xC6, 0x3A, 0xC6, false, 0x00, 0xB0)].all aluVector = true := by decide

theorem test_V83_V86_adc :
    [(0xCE, 0xE1, 0x0F, true, 0xF1, 0x20), (0xCE, 0xFF, 0x00, true, 0x00, 0xB0), (0xCE, 0x0F, 0x00, true, 0x10, 0x20),
     (0xCE, 0x80, 0x7F, true, 0x00, 0xB0)].all aluVector = true := by decide

theorem test_V87_V91_sub :
    [(0xD6, 0x3E, 0x0F, true, 0x2F, 0x60), (0xD6, 0x00, 0x01, false, 0xFF, 0x70), (0xD6, 0x10, 0x10, true, 0x00, 0xC0),
     (0xD6, 0x3E, 0x40, false, 0xFE, 0x50), (0xD6, 0x80, 0x01, true, 0x7F, 0x60)].all aluVector = true := by decide

theorem test_V92_V96_sbc :
    [(0xDE, 0x3B, 0x2A, true, 0x10, 0x40), (0xDE, 0x00, 0x00, true, 0xFF, 0x70), (0xDE, 0x10, 0x0F, true, 0x00, 0xE0),
     (0xDE, 0x3B, 0x4F, true, 0xEB, 0x70), (0xDE, 0x01, 0x00, true, 0x00, 0xC0)].all aluVector = true := by decide

theorem test_V97_V99_cp :
    [(0xFE, 0x3C, 0x40, true, 0x3C, 0x50), (0xFE, 0x3C, 0x3C, false, 0x3C, 0xC0),
     (0xFE, 0x3C, 0x2F, true, 0x3C, 0x60)].all aluVector = true := by decide

theorem test_V100_V105_bitwise :
    [(0xE6, 0x5A, 0x3F, true, 0x1A, 0x00), (0xE6, 0x5A, 0xA5, false, 0x00, 0x80), (0xEE, 0xFF, 0x0F, true, 0xF0, 0x00),
     (0xF6, 0x00, 0x00, true, 0x00, 0x80), (0xF6, 0x12, 0x21, true, 0x33, 0x00)].all aluVector = true := by decide

theorem test_V103_V106_V107_xor_cpl :
    runs [0xAF] { core0 with a := 0x77 } (fun t => { t with a := 0x00, flags := fl 0x80, pc := 0x0101 }) = true ∧
    runs [0x2F] { core0 with a := 0x35, flags := fl 0x10 } (fun t => { t with a := 0xCA, flags := fl 0x00, pc := 0x0101 }) = true ∧
    runs [0x2F] { core0 with a := 0xFF } (fun t => { t with a := 0x00, flags := fl 0x80, pc := 0x0101 }) = true := by decide

/-- The operand-mode vectors after V107. -/
theorem test_add_operand_modes :
    runs [0x86] ({ core0 with a := 0x0F, h := 0xC0 }.write 0xC000 0x01)
      (fun t => { t with a := 0x10, flags := fl 0x20, pc := 0x0101 }) = true ∧
    runs [0x87] { core0 with a := 0x88 } (fun t => { t with a := 0x10, flags := fl 0x30, pc := 0x0101 }) = true := by decide

/-! ### Extension, unprefixed: V108 to V136 -/

theorem test_V108_V111_rotates_of_a :
    runs [0x07] { ext0 with a := 0x85 } (fun t => { t with a := 0x0B, flags := fl 0x10, pc := 0x0101 }) = true ∧
    runs [0x0F] { ext0 with a := 0x3B } (fun t => { t with a := 0x9D, flags := fl 0x10, pc := 0x0101 }) = true ∧
    runs [0x17] { ext0 with a := 0x95, flags := fl 0x10 } (fun t => { t with a := 0x2B, flags := fl 0x10, pc := 0x0101 }) = true ∧
    runs [0x1F] { ext0 with a := 0x81 } (fun t => { t with a := 0x40, flags := fl 0x10, pc := 0x0101 }) = true := by decide

/-- The DAA of each vector, from the A and F its table gives before DAA. -/
theorem test_V112_V117_daa :
    ([(0x7D, 0x00, 0x83, 0x00), (0x41, 0x20, 0x47, 0x00), (0x9A, 0x00, 0x00, 0x90), (0x2D, 0x60, 0x27, 0x40),
      (0xF0, 0x50, 0x90, 0x50), (0x9F, 0x00, 0x05, 0x10)] : List (Byte × Byte × Byte × Byte)).all (fun v =>
        runs [0x27] { ext0 with a := v.1, flags := fl v.2.1 }
          fun t => { t with a := v.2.2.1, flags := fl v.2.2.2, pc := 0x0101 }) = true := by decide

theorem test_V118_V119_carry :
    runs [0x37] { ext0 with flags := fl 0xE0 } (fun t => { t with flags := fl 0x90, pc := 0x0101 }) = true ∧
    runs [0x3F] { ext0 with flags := fl 0x70 } (fun t => { t with flags := fl 0x00, pc := 0x0101 }) = true := by decide

theorem test_V120_V121_add_hl :
    runs [0x09] { ext0 with h := 0x8A, l := 0x23, b := 0x06, c := 0x05, flags := fl 0x80 }
      (fun t => { t with h := 0x90, l := 0x28, flags := fl 0xA0, pc := 0x0101 }) = true ∧
    runs [0x19] { ext0 with h := 0xFF, l := 0xFF, e := 0x01 }
      (fun t => { t with h := 0x00, l := 0x00, flags := fl 0x30, pc := 0x0101 }) = true := by decide

theorem test_V122_V125_sp_displacement :
    runs [0xE8, 0x02] { ext0 with sp := 0xFFF8 } (fun t => { t with sp := 0xFFFA, flags := fl 0x00, pc := 0x0102 }) = true ∧
    runs [0xE8, 0xFF] { ext0 with sp := 0x0001 } (fun t => { t with sp := 0x0000, flags := fl 0x30, pc := 0x0102 }) = true ∧
    runs [0xE8, 0xFF] { ext0 with sp := 0x0000 } (fun t => { t with sp := 0xFFFF, flags := fl 0x00, pc := 0x0102 }) = true ∧
    runs [0xF8, 0x02] { ext0 with sp := 0xFFF8 }
      (fun t => { t with h := 0xFF, l := 0xFA, flags := fl 0x00, pc := 0x0102 }) = true := by decide

theorem test_V126_V129_jr_cc :
    runs [0x20, 0xFE] { ext0 with flags := fl 0x80 } (fun t => { t with pc := 0x0102 }) = true ∧
    runs [0x20, 0xFE] ext0 (fun t => { t with pc := 0x0100 }) = true ∧
    runs [0x28, 0x20] { ext0 with flags := fl 0x80, pc := 0xFFEE }
      (fun t => { t with pc := 0xFFF0, runState := .faulted .jumpRange }) = true ∧
    runs [0x28, 0x20] { ext0 with pc := 0xFFEE } (fun t => { t with pc := 0xFFF0 }) = true := by decide

theorem test_V130_V131_jp_cc :
    runs [0xDA, 0x00, 0x20] { ext0 with flags := fl 0x10 } (fun t => { t with pc := 0x2000 }) = true ∧
    runs [0xDA, 0x00, 0x20] ext0 (fun t => { t with pc := 0x0103 }) = true := by decide

theorem test_V132_V133_call_cc :
    runs [0xCC, 0x34, 0x12] ext0 (fun t => { t with pc := 0x0103 }) = true ∧
    runs [0xCC, 0x34, 0x12] { ext0 with flags := fl 0x80 }
      (fun t => ({ t with pc := 0x1234, sp := 0xFFFC }.write 0xFFFC 0x03).write 0xFFFD 0x01) = true := by decide

theorem test_V134_V136_ret_cc_jp_hl :
    runs [0xD0] (({ ext0 with sp := 0xFFFC }.write 0xFFFC 0x53).write 0xFFFD 0x01)
      (fun t => { t with pc := 0x0153, sp := 0xFFFE }) = true ∧
    runs [0xD0] { ext0 with sp := 0xFFFC, flags := fl 0x10 } (fun t => { t with pc := 0x0101 }) = true ∧
    runs [0xE9] { ext0 with h := 0x40 } (fun t => { t with pc := 0x4000 }) = true := by decide

/-! ### Extension, 0xCB: V137 to V148 -/

theorem test_V137_V140_rotates :
    runs [0xCB, 0x00] { ext0 with b := 0x85 } (fun t => { t with b := 0x0B, flags := fl 0x10, pc := 0x0102 }) = true ∧
    runs [0xCB, 0x09] { ext0 with c := 0x01 } (fun t => { t with c := 0x80, flags := fl 0x10, pc := 0x0102 }) = true ∧
    runs [0xCB, 0x15] { ext0 with l := 0x80 } (fun t => { t with l := 0x00, flags := fl 0x90, pc := 0x0102 }) = true ∧
    runs [0xCB, 0x1F] { ext0 with a := 0x01 } (fun t => { t with a := 0x00, flags := fl 0x90, pc := 0x0102 }) = true := by decide

theorem test_V141_V144_shifts :
    runs [0xCB, 0x22] { ext0 with d := 0x80 } (fun t => { t with d := 0x00, flags := fl 0x90, pc := 0x0102 }) = true ∧
    runs [0xCB, 0x2F] { ext0 with a := 0x8A } (fun t => { t with a := 0xC5, flags := fl 0x00, pc := 0x0102 }) = true ∧
    runs [0xCB, 0x37] { ext0 with a := 0xF1 } (fun t => { t with a := 0x1F, flags := fl 0x00, pc := 0x0102 }) = true ∧
    runs [0xCB, 0x3F] { ext0 with a := 0xFF } (fun t => { t with a := 0x7F, flags := fl 0x10, pc := 0x0102 }) = true := by decide

theorem test_V145_V148_bits :
    runs [0xCB, 0x7C] { ext0 with h := 0x80, flags := fl 0x10 } (fun t => { t with flags := fl 0x30, pc := 0x0102 }) = true ∧
    runs [0xCB, 0x44] { ext0 with h := 0x80, flags := fl 0x10 } (fun t => { t with flags := fl 0xB0, pc := 0x0102 }) = true ∧
    runs [0xCB, 0x87] { ext0 with a := 0xFF } (fun t => { t with a := 0xFE, pc := 0x0102 }) = true ∧
    runs [0xCB, 0xDE] { ext0 with h := 0xC0 } (fun t => { t with pc := 0x0102 }.write 0xC000 0x08) = true := by decide

/-! ### Faults, PPU, reset and driver: V150 to V173 -/

theorem test_V150_V151_illegal_bytes :
    ([0xD3, 0xDB, 0xDD, 0xE3, 0xE4, 0xEB, 0xEC, 0xED, 0xF4, 0xFC, 0xFD] : List Byte).all (fun op =>
      runs [op] { core0 with pc := 0x0123 } (fun t => { t with runState := .faulted .decode }) &&
      runs [op] { ext0 with pc := 0x0123 } (fun t => { t with runState := .faulted .decode })) = true := by decide

theorem test_V153_V160_ppu :
    Ppu.tick^[19] ⟨.oamSearch, 0, 0⟩ = ⟨.oamSearch, 0, 19⟩ ∧ Ppu.tick ⟨.oamSearch, 0, 19⟩ = ⟨.draw, 0, 0⟩ ∧
    Ppu.tick ⟨.draw, 0, 62⟩ = ⟨.hblank, 0, 0⟩ ∧ Ppu.tick ⟨.hblank, 0, 113⟩ = ⟨.draw, 1, 0⟩ ∧
    Ppu.tick^[19] ⟨.draw, 1, 0⟩ = ⟨.draw, 1, 19⟩ := by decide

theorem test_V161_V165_ppu :
    Ppu.tick ⟨.hblank, 143, 113⟩ = ⟨.vblank, 144, 0⟩ ∧ Ppu.tick ⟨.vblank, 144, 113⟩ = ⟨.vblank, 145, 0⟩ ∧
    Ppu.tick ⟨.vblank, 153, 113⟩ = ⟨.oamSearch, 0, 0⟩ := by decide

/-- The frame of each FRAME_POINT, and none at the other's point (V159, V165). -/
theorem test_frame_points :
    (ppuTick { core0 with ppu := ⟨.hblank, 0, 113⟩ }).frames = 2 ∧ (ppuTick { core0 with ppu := ⟨.vblank, 153, 113⟩ }).frames = 1 ∧
    (ppuTick { core0 with ppu := ⟨.vblank, 153, 113⟩, cfg := { Config.default with framePoint := .vblankExit } }).frames = 2 ∧
    (ppuTick { core0 with ppu := ⟨.hblank, 0, 113⟩, cfg := { Config.default with framePoint := .vblankExit } }).frames = 1 := by
  decide

theorem test_V167_V168_stop_start :
    Ppu.stop ⟨.draw, 5, 30⟩ = ⟨.off, 5, 30⟩ ∧ ppuTicks 3 { core0 with ppu := ⟨.off, 5, 30⟩ } = { core0 with ppu := ⟨.off, 5, 30⟩ } ∧
    ppuStart { core0 with ppu := ⟨.off, 5, 30⟩ } = { core0 with frames := 2 } := by decide

/-- A launch with the default parameters, no image and a host that keeps the display open gives `State.reset`. -/
theorem test_launch_is_reset : launch Config.default [] [] = .next State.reset := rfl

theorem test_V169_launch :
    nx (launch Config.default [0x00, 0x76] []) = some { State.reset with mem := [(0x0001, 0x76)] } := by decide

/-- V10: the boundary lengths of `IMAGE_MAX`. -/
theorem test_V10_image_too_large :
    launch { Config.default with imageMax := 2 } [0x00, 0x76, 0x00] [] = .refused .imageTooLarge ∧
    (nx (launch { Config.default with imageMax := 3 } [0x00, 0x76, 0x00] [])).isSome = true := ⟨rfl, rfl⟩

theorem test_V170_reset_pc :
    ((nx (launch { Config.default with resetPc := 0x0001 } [0x00, 0x76] [])).bind fun s => nx (step s)).map
      (fun t => (t.runState, t.pc)) = some (.halted .halt, 0x0002) := by decide

theorem test_V171_closed_at_start :
    (nx (launch Config.default [0x00, 0x76] [false])).map (fun s => (s.ppu, s.displayOpen, nx (step s) == some s)) =
      some (⟨.off, 0, 0⟩, false, true) := by decide

theorem test_V172_driver :
    (nx (step { State.reset with mem := [(1, 0x76)] })).map (fun t => (t.pc, t.ppu, t.runState)) =
      some (0x0001, ⟨.oamSearch, 0, 1⟩, .running) ∧
    (nx (step { State.reset with mem := [(1, 0x76)], pc := 0x0001, ppu := ⟨.oamSearch, 0, 1⟩ })).map
      (fun t => (t.pc, t.ppu, t.runState)) = some (0x0002, ⟨.oamSearch, 0, 2⟩, .halted .halt) := by decide

theorem test_V173_fault_has_no_ticks :
    nx (step { State.reset with mem := [(0, 0xD3)] }) = some { State.reset with mem := [(0, 0xD3)], runState := .faulted .decode } := by
  decide

/-- R388: a conditional instruction costs less when it is not taken; the line of R356 shows the cost. -/
theorem test_trace_and_costs :
    (nx (step (storeBytes 0x0100 [0x20, 0x05] ext0))).map (fun t => (t.lastTrace, t.ppu.dot)) =
      some (some ⟨0x0100, "JR NZ,e8", 12, [0x05]⟩, 3) ∧
    (nx (step (storeBytes 0x0100 [0x20, 0x05] { ext0 with flags := fl 0x80 }))).map (fun t => (t.lastTrace, t.ppu.dot)) =
      some (some ⟨0x0100, "JR NZ,e8", 8, [0x05]⟩, 2) := by decide

theorem test_withFetchWord :
    (nx (step (State.reset.withFetchWord 8 0x04))).map (fun t => (t.b, t.pc)) = some (0x01, 0x0001) ∧
    (nx (step (State.reset.withFetchWord 16 0xCBC7))).map (fun t => (t.a, t.pc)) = some (0x01, 0x0002) ∧
    (nx (step (State.reset.withFetchWord 8 0xD3))).map (fun t => (t.runState, t.pc)) = some (.faulted .decode, 0x0000) := by decide

/-! ### Witnesses: for each obligation with hypotheses, data that meets them -/

theorem witness_DecodeOfEncodeIsTheInstruction :
    Instr.nop ≠ .prefix_cb ∧ Instr.ld_sp_d16 0xFFFF ≠ .prefix_cb ∧ Instr.set_7_a ≠ .prefix_cb ∧ Instr.illegal_fd ≠ .prefix_cb := by
  decide

theorem witness_DecodedBytesAreTheEncoding :
    decode [0x00] = .ok (.nop, []) ∧ decode [0x06, 0xFF, 0xAA] = .ok (.ld_b_d8 0xFF, [0xAA]) ∧
    decode [0xCB, 0xFF] = .ok (.set_7_a, []) ∧ decode [0xCB] = .ok (.prefix_cb, []) := ⟨rfl, rfl, rfl, rfl⟩

theorem witness_CbNamespaceIsWholeAndGated :
    let s := core0.write 0x0100 0xCB
    s.runState = .running ∧ s.cfg.sm83Ext = false ∧ s.read s.pc = 0xCB := by decide

theorem witness_IllegalBytesNeverHaveADescriptor :
    (∀ op ∈ illegalBytes, (core0.write 0x0100 op).runState = .running ∧ (core0.write 0x0100 op).read 0x0100 = op) ∧
    (0xD2 : Byte) ∉ illegalBytes ∧ (0xCB : Byte) ∉ illegalBytes ∧ (0xFF : Byte) ∉ illegalBytes := by decide

theorem witness_DescriptorLengthIsTheEncodedLength :
    (Instr.descriptor? false .nop).isSome = true ∧ (Instr.descriptor? true (.call_nz_a16 0xFFFF)).isSome = true ∧
    (Instr.descriptor? true .swap_a).isSome = true := by decide

theorem witness_StepRunsTheDecodedInstruction :
    let s := storeBytes 0x0100 [0xC2, 0xFF, 0xFF] ext0
    s.runState = .running ∧ s.displayOpen = true ∧ decode s.bytesAtPc = .ok (.jp_nz_a16 0xFFFF, []) ∧
    (Instr.jp_nz_a16 0xFFFF).descriptor? s.cfg.sm83Ext = some ⟨"JP NZ,a16", 3, 16, 12, false⟩ := ⟨rfl, rfl, rfl, rfl⟩

/-- A byte with a descriptor, an illegal byte, and an extension byte without `SM83_EXT`. -/
theorem witness_MissingDescriptorIsADecodeFault :
    (core0.runState = .running ∧ decode core0.bytesAtPc = .ok (.nop, [0x00, 0x00])) ∧
    decode (core0.write 0x0100 0xD3).bytesAtPc = .ok (.illegal_d3, [0x00, 0x00]) ∧
    Instr.descriptor? false .illegal_d3 = none ∧
    decode (core0.write 0x0100 0x27).bytesAtPc = .ok (.daa, [0x00, 0x00]) ∧
    Instr.descriptor? core0.cfg.sm83Ext .daa = none := ⟨⟨rfl, rfl⟩, rfl, rfl, rfl, rfl⟩

theorem witness_IllegalRowsRaiseDecodeFault :
    Instr.prefix_cb ∈ ([.illegal_d3, .illegal_db, .illegal_dd, .illegal_e3, .illegal_e4, .illegal_eb, .illegal_ec, .illegal_ed,
      .illegal_f4, .illegal_fc, .illegal_fd, .prefix_cb] : List Instr) := by decide

theorem witness_TerminalRunStatesAreInert :
    ({ core0 with runState := .halted .stop } : State).runState ≠ .running ∧
    ({ core0 with runState := .faulted .jumpRange } : State).runState ≠ .running := by decide

theorem witness_DisplayNeverReopensAndParametersStay :
    ({ core0 with displayOpen := false } : State).displayOpen = false ∧
    (nx (step core0)).map (·.displayOpen) = some true ∧
    (nx (step { core0 with hostAnswers := [false] })).map (·.displayOpen) = some false := by decide

theorem witness_StepKeepsTheInvariant : State.reset.Inv ∧ (nx (step State.reset)).isSome = true := by decide

theorem witness_LaunchGivesTheResetState :
    ([0x00, 0x76] : List Byte).length > ({ Config.default with imageMax := 1 } : Config).imageMax ∧
    ([0x00, 0x76] : List Byte).length ≤ ({ Config.default with imageMax := 2 } : Config).imageMax ∧
    ([] : List Bool).head? ≠ some false ∧ [true, false].head? ≠ some false ∧ [false].head? = some false := by decide

theorem witness_RegisterWriteIsLocal : Reg8.b ≠ Reg8.a := by decide

theorem witness_ByteWriteChangesOneByte : Memory.wf core0.mem = true ∧ Memory.wf (core0.write 0xFFFF 0x01).mem = true := by decide

/-- The store hits the first byte, the last byte at the wrap, and neither. -/
theorem witness_FetchReadsMemoryAsItIs :
    let b := fun (s : State) (x : Word) (v : Byte) => [if s.pc = x then v else s.read s.pc,
      if s.pc + 1 = x then v else s.read (s.pc + 1), if s.pc + 2 = x then v else s.read (s.pc + 2)]
    decode (b core0 0x0100 0x76) = .ok (.halt, [0x00, 0x00]) ∧
    decode (b { core0 with pc := 0xFFFE, mem := [(0xFFFE, 0x01)] } 0x0000 0x12) = .ok (.ld_bc_d16 0x1200, []) ∧
    decode (b core0 0xC000 0x76) = .ok (.nop, [0x00, 0x00]) := ⟨rfl, rfl, rfl⟩

/-- Targets 0 and 0xFFFF, and the two nearest targets out of range. -/
theorem witness_RelativeJumpOrRangeFault :
    ((0x0000 : Word).toNat : Int) = ((0x0002 : Word).toNat : Int) + (0xFE : Byte).toInt ∧
    ((0xFFFF : Word).toNat : Int) = ((0xFFFE : Word).toNat : Int) + (0x01 : Byte).toInt ∧
    ((0x0002 : Word).toNat : Int) + (0xFD : Byte).toInt < 0 ∧ ((0xFFFE : Word).toNat : Int) + (0x02 : Byte).toInt > 0xFFFF := by
  decide

theorem witness_CallThenReturnRestores : ∃ t, exec (.call_a16 0x1234) { core0 with sp := 0x0001 } = .next t := ⟨_, rfl⟩

theorem witness_PushThenPopRestores :
    (∃ t, exec (.push .af) { core0 with sp := 0x0001, a := 0x12, flags := fl 0xF0 } = .next t) ∧
    (∃ t, exec (.push .hl) core0 = .next t) := ⟨⟨_, rfl⟩, ⟨_, rfl⟩⟩

theorem witness_BitwiseOperations : 0 < 8 ∧ 7 < 8 := by decide

theorem witness_DecimalAdjust : (fl 0xB0).n = false ∧ (fl 0x70).n = true := by decide

theorem witness_BcdArithmeticIsDecimal :
    let s : State := { core0 with a := 0x99 }
    s.a = BitVec.ofNat 8 (16 * ((99 : Fin 100).val / 10) + (99 : Fin 100).val % 10) ∧
    (∃ t, exec (.add_a_d8 (BitVec.ofNat 8 (16 * ((99 : Fin 100).val / 10) + (99 : Fin 100).val % 10))) s = .next t) ∧
    (∃ t, exec (.sub_a_d8 (BitVec.ofNat 8 (16 * ((0 : Fin 100).val / 10) + (0 : Fin 100).val % 10))) s = .next t) :=
  ⟨rfl, ⟨_, rfl⟩, ⟨_, rfl⟩⟩

theorem witness_ConditionalTransfersAndJumpHL :
    condHolds .nz (fl 0x80) = false ∧ condHolds .c (fl 0x00) = false ∧ condHolds .z (fl 0x80) = true ∧
    condHolds .nc (fl 0x00) = true ∧
    ((0xFFFF : Word).toNat : Int) = ((0xFFFE : Word).toNat : Int) + (0x01 : Byte).toInt ∧
    ((0x0001 : Word).toNat : Int) + (0xFE : Byte).toInt < 0 ∧ ((0xFFFF : Word).toNat : Int) + (0x01 : Byte).toInt > 0xFFFF := by
  decide

theorem witness_BitTestResetAndSet : 0 < 8 ∧ 7 < 8 ∧ 7 = (7 : Fin 8).val ∧ 0 ≠ (7 : Fin 8).val := by decide

theorem witness_RegisterFrame :
    (∃ t, exec (.ld_hl_d16 0x1234) core0 = .next t) ∧ Reg8.b ∉ (footprint (.ld_hl_d16 0x1234) core0).regs ∧
    (footprint (.ld_hl_d16 0x1234) core0).sp = false := ⟨⟨_, rfl⟩, by decide, rfl⟩

theorem witness_FlagFrame :
    (∃ t, exec .scf core0 = .next t) ∧ (footprint .scf core0).flags.z = false ∧
    (∃ t, exec .nop core0 = .next t) ∧ (footprint .nop core0).flags = ⟨false, false, false, false⟩ := ⟨⟨_, rfl⟩, rfl, ⟨_, rfl⟩, rfl⟩

/-- The byte after the two bytes a push stores at the wrap. -/
theorem witness_MemoryFrame :
    (∃ t, exec .push_bc { core0 with sp := 0x0001 } = .next t) ∧
    (0x0001 : Word) ∉ (footprint .push_bc { core0 with sp := 0x0001 }).stores ∧
    (0x0000 : Word) ∈ (footprint .push_bc { core0 with sp := 0x0001 }).stores := ⟨⟨_, rfl⟩, by decide, by decide⟩

theorem witness_ControlStateFrame :
    (∃ t, exec (.jp_a16 0x1234) core0 = .next t) ∧ (footprint .add_a_b core0).pc = false ∧
    Instr.jp_a16 0x1234 ≠ .ei ∧ Instr.jp_a16 0x1234 ≠ .di ∧ Instr.jp_a16 0x1234 ≠ .reti ∧ Instr.jp_a16 0x1234 ≠ .halt ∧
    (∀ x, Instr.jp_a16 0x1234 ≠ .stop x) ∧ (∀ x, Instr.jp_a16 0x1234 ≠ .jr_e8 x) ∧
    (∀ cc x, Instr.jp_a16 0x1234 ≠ .jrCond cc x) ∧ Instr.wellFormed (.jp_a16 0x1234) = true :=
  ⟨⟨_, rfl⟩, rfl, nofun, nofun, nofun, nofun, nofun, nofun, fun cc x => by cases cc <;> exact nofun, rfl⟩

theorem witness_CpuNeverTouchesPpuOrHost : ∃ t, exec (.ld_a16_a 0xFF40) core0 = .next t := ⟨_, rfl⟩

theorem witness_PpuModeDurations : 0 ≠ 143 ∧ 142 ≠ 143 ∧ 144 ≠ 153 ∧ 152 ≠ 153 := by decide

theorem witness_OneFramePerPeriod :
    (⟨.hblank, 143, 113⟩ : Ppu).Inv ∧ (⟨.vblank, 144, 0⟩ : Ppu).Inv ∧ PpuMode.hblank ≠ .off ∧ core0.displayOpen = true ∧
    (∀ b ∈ [true, true], b = true) := by decide

theorem witness_StartAndStop :
    core0.displayOpen = true ∧ core0.hostAnswers.head? ≠ some false ∧
    ({ core0 with ppu := ⟨.off, 5, 30⟩ } : State).ppu.mode = .off ∧
    (nx (step { core0 with ppu := ⟨.off, 5, 30⟩ })).isSome = true := by decide

theorem witness_ClosedDisplayStopsThePpu :
    (core0.displayOpen = true ∧ core0.hostAnswers.head? ≠ some false) ∧
    ({ core0 with displayOpen := false } : State).displayOpen = false ∧
    ({ core0 with hostAnswers := [false] } : State).hostAnswers.head? = some false := by decide

end Sys2Proof.Tests
end

/-! PROOF. The cost parameters (R7, R351): the keys of the opcode table are bounded, so one finite table of entries holds any
function of key and branch outcome (log 4). -/

namespace Sys2Proof.Machine

/-- The last key of the opcode table is that of 0xCB 0xFF (R93, R104). -/
theorem row_key_lt (i : Instr) : i.row.key < 0xCC00 := by
  cases i <;> exact of_decide_eq_true rfl

/-- The cost table that lists `f` at both branch outcomes of every key below a bound. -/
def costsBelow (f : Nat → Bool → Nat) : Nat → List Cost
  | 0 => []
  | n + 1 => ⟨n, true, f n true⟩ :: ⟨n, false, f n false⟩ :: costsBelow f n

theorem costEntry_cons (e : Cost) (es : List Cost) (key : Nat) (taken : Bool) :
    costEntry (e :: es) key taken = if e.key = key ∧ e.taken = taken then some e.cost else costEntry es key taken := rfl

theorem costEntry_costsBelow (f : Nat → Bool → Nat) {n key : Nat} (h : key < n) (taken : Bool) :
    costEntry (costsBelow f n) key taken = some (f key taken) := by
  induction n with
  | zero => exact absurd h (Nat.not_lt_zero key)
  | succ n ih =>
    rw [costsBelow, costEntry_cons, costEntry_cons]
    obtain hlt | rfl := Nat.lt_succ_iff_lt_or_eq.mp h
    · simp [hlt.ne', ih hlt]
    · cases taken <;> simp

/-- An entry of `PPU_TICKS` overrides `CYCLES / 4` (R351). -/
theorem ppuTicksOf_of_costEntry {cfg : Config} {row : TableRow} {taken : Bool} {n : Nat}
    (h : costEntry cfg.ppuTicks row.key taken = some n) : ppuTicksOf cfg row taken = n := by
  rw [ppuTicksOf, h, Option.getD_some]

/-- Without an entry `PPU_TICKS` is `CYCLES / 4` (R351). -/
theorem ppuTicksOf_of_costEntry_none {cfg : Config} {row : TableRow} {taken : Bool}
    (h : costEntry cfg.ppuTicks row.key taken = none) : ppuTicksOf cfg row taken = cyclesOf cfg row taken / 4 := by
  rw [ppuTicksOf, h, Option.getD_none]

/-- Settles O16: the table lists the function at every key below the bound of the opcode table's keys. `CYCLES` does not read
the entries of `PPU_TICKS`, so the default is that of the given configuration. -/
theorem everyTickCostIsAParameterValue : Obligations.EveryTickCostIsAParameterValue := by
  refine ⟨fun f => ⟨costsBelow f 0xCC00, fun cfg i taken => ?_⟩, fun cfg row taken => ?_⟩
  · exact ppuTicksOf_of_costEntry (costEntry_costsBelow f (row_key_lt i) taken)
  · exact ppuTicksOf_of_costEntry_none (cfg := { cfg with ppuTicks := [] }) rfl

end Sys2Proof.Machine

/-! PROOF. What an instruction may change: the rows of `footprint` as one relation between the state before and the state after,
kept by each shared operation, and the frame statements of 10_state.md, R36, R40 and R45 read off it. -/

namespace Sys2Proof.Machine

/-! ### The relation -/

/-- Every flag outside the written ones is as before. -/
structure FlagsKept (written old new : Flags) : Prop where
  z : written.z = false → new.z = old.z
  n : written.n = false → new.n = old.n
  h : written.h = false → new.h = old.h
  c : written.c = false → new.c = old.c

/-- The PPU, the display, the parameters and the host's state: what no instruction changes (R45, R64, R347). -/
def OutsideKept (s t : State) : Prop :=
  t.ppu = s.ppu ∧ t.displayOpen = s.displayOpen ∧ t.cfg = s.cfg ∧ t.hostAnswers = s.hostAnswers ∧ t.frames = s.frames ∧
  t.lastTrace = s.lastTrace

/-- `t` differs from `s` at most in what the footprint lets an instruction write. An operation that leaves a field alone does so by
its `@[simp]` lemma, so a proof names only the fields the operation writes. -/
structure Frame (s t : State) (fp : Footprint) : Prop where
  reg : ∀ r, r ∉ fp.regs → t.reg r = s.reg r := by simp
  sp : fp.sp = false → t.sp = s.sp := by simp
  flags : FlagsKept fp.flags s.flags t.flags := by constructor <;> simp
  pc : fp.pc = false → t.pc = s.pc := by simp
  ime : fp.ime = false → t.ime = s.ime := by simp
  runState : fp.run = false → t.runState = s.runState := by simp
  read : ∀ a, a ∉ fp.stores → t.read a = s.read a := by simp
  outside : OutsideKept s t := by simp [OutsideKept]

/-! ### The flags -/

theorem FlagsKept.refl (written f : Flags) : FlagsKept written f f := ⟨fun _ => rfl, fun _ => rfl, fun _ => rfl, fun _ => rfl⟩

/-- Where all four flags are written there is nothing to keep. -/
theorem FlagsKept.all (old new : Flags) : FlagsKept ⟨true, true, true, true⟩ old new := ⟨nofun, nofun, nofun, nofun⟩

theorem FlagsKept.keepZ (old : Flags) (n h c : Bool) : FlagsKept ⟨false, true, true, true⟩ old ⟨old.z, n, h, c⟩ :=
  ⟨fun _ => rfl, nofun, nofun, nofun⟩

theorem FlagsKept.keepN (old : Flags) (z h c : Bool) : FlagsKept ⟨true, false, true, true⟩ old ⟨z, old.n, h, c⟩ :=
  ⟨nofun, fun _ => rfl, nofun, nofun⟩

theorem FlagsKept.keepC (old : Flags) (z n h : Bool) : FlagsKept ⟨true, true, true, false⟩ old ⟨z, n, h, old.c⟩ :=
  ⟨nofun, nofun, nofun, fun _ => rfl⟩

/-- The 8-bit increment writes a flag only under `INCDEC_FLAGS` = sm83, and never C (R160). -/
theorem incByte_flagsKept (mode : IncDecFlags) (v : Byte) (f : Flags) :
    FlagsKept (incDecFlagsWritten mode) f (incByte mode v f).flags := by
  cases mode with
  | unchanged => exact .refl _ f
  | sm83 => exact .keepC f _ _ _

theorem decByte_flagsKept (mode : IncDecFlags) (v : Byte) (f : Flags) :
    FlagsKept (incDecFlagsWritten mode) f (decByte mode v f).flags := by
  cases mode with
  | unchanged => exact .refl _ f
  | sm83 => exact .keepC f _ _ _

/-! ### The updates of State -/

theorem frame_refl (s : State) : Frame s s .empty where

theorem setReg_frame (s : State) (r : Reg8) (v : Byte) : Frame s (s.setReg r v) (.ofRegs [r]) where
  reg q hq := by rw [setReg_reg, if_neg (by simpa [Footprint.ofRegs] using hq)]

theorem setPair_frame (s : State) (p : Pair) (v : Word) : Frame s (s.setPair p v) (.pair p) where
  reg q hq := by
    cases p <;> cases q <;>
      simp_all [State.setPair, State.reg, Footprint.pair, Footprint.ofRegs, Footprint.empty]
  sp hsp := by
    cases p with
    | sp => cases hsp
    | bc | de | hl => rfl

theorem write_frame (s : State) (a : Word) (v : Byte) : Frame s (s.write a v) (.store [a]) where
  read b hb := by rw [write_read, if_neg (by simpa [Footprint.store] using hb)]

theorem writeWord_frame (s : State) (a v : Word) : Frame s (s.writeWord a v) (.store [a, a + 1]) where
  read b hb := by
    obtain ⟨hlow, hhigh⟩ : b ≠ a ∧ b ≠ a + 1 := by simpa [Footprint.store] using hb
    rw [writeWord_read, if_neg hhigh, if_neg hlow]

theorem raiseFault_frame (s : State) (reason : Fault) : Frame s (raiseFault reason s) .runOnly where
  runState := nofun

theorem haltWith_frame (s : State) (reason : HaltReason) : Frame s (haltWith reason s) .runOnly where
  runState := nofun

/-- Flags written besides, as `Footprint.withFlags` says. -/
theorem Frame.setFlags {s t : State} {fp : Footprint} {written f : Flags} (ht : Frame s t fp) (hf : FlagsKept written s.flags f) :
    Frame s (t.setFlags f) (fp.withFlags written) :=
  { ht with flags := hf, reg := fun r hr => (setFlags_reg t f r).trans (ht.reg r hr) }

/-- IME written besides, as `Footprint.withIme` says. -/
theorem Frame.setIme {s t : State} {fp : Footprint} (ht : Frame s t fp) (v : Bool) : Frame s (t.setIme v) fp.withIme :=
  { ht with ime := nofun, reg := fun r hr => (setIme_reg t v r).trans (ht.reg r hr) }

/-- pc written besides. -/
theorem Frame.setPc {s t : State} {fp : Footprint} (ht : Frame s t fp) (target : Word) :
    Frame s (t.setPc target) { fp with pc := true } :=
  { ht with pc := nofun, reg := fun r hr => (setPc_reg t target r).trans (ht.reg r hr) }

/-- HL written besides. -/
theorem Frame.setHL {s t : State} {fp : Footprint} (ht : Frame s t fp) (v : Word) :
    Frame s (t.setPair .hl v) { fp with regs := fp.regs ++ [.h, .l] } :=
  { ht with
    reg := fun r hr => by
      obtain ⟨hfp, hhl⟩ : r ∉ fp.regs ∧ r ∉ [Reg8.h, Reg8.l] := by simpa only [List.mem_append, not_or] using hr
      exact ((setPair_frame t .hl v).reg r hhl).trans (ht.reg r hfp) }

/-! ### The shared operations -/

/-- What a write of an operand `r8` may change (R92, R300). -/
def Footprint.opd (s : State) : Opd8 → Footprint
  | .reg r => .ofRegs [r]
  | .atHL => .store [s.pair .hl]

theorem setOpd_frame (s : State) (o : Opd8) (v : Byte) : Frame s (s.setOpd o v) (.opd s o) := by
  cases o with
  | reg r => exact setReg_frame s r v
  | atHL => exact write_frame s (s.pair .hl) v

theorem storeAMoveHL_frame (s : State) (delta : Word) :
    Frame s (storeAMoveHL delta s) (.storeAndRegs [s.pair .hl] [.h, .l]) :=
  (write_frame s (s.pair .hl) s.a).setHL _

theorem loadAMoveHL_frame (s : State) (delta : Word) : Frame s (loadAMoveHL delta s) (.ofRegs [.a, .h, .l]) :=
  (setReg_frame s .a _).setHL _

theorem incOperand_frame (s : State) (o : Opd8) :
    Frame s (incOperand o s) (.withFlags (.opd s o) (incDecFlagsWritten s.cfg.incdecFlags)) :=
  (setOpd_frame s o _).setFlags (incByte_flagsKept _ _ _)

theorem decOperand_frame (s : State) (o : Opd8) :
    Frame s (decOperand o s) (.withFlags (.opd s o) (incDecFlagsWritten s.cfg.incdecFlags)) :=
  (setOpd_frame s o _).setFlags (decByte_flagsKept _ _ _)

theorem rotOperand_frame (s : State) (op : RotOp) (o : Opd8) :
    Frame s (rotOperand op o s) (.withFlags (.opd s o) ⟨true, true, true, true⟩) :=
  (setOpd_frame s o _).setFlags (.all _ _)

theorem testBit_frame (s : State) (y : Fin 8) (o : Opd8) :
    Frame s (testBit y o s) (.withFlags .empty ⟨true, true, true, false⟩) :=
  (frame_refl s).setFlags (.keepC _ _ _ _)

theorem aluOperate_frame (s : State) (op : AluOp) (src : AluSrc) (h : op ≠ .cp) :
    Frame s (aluOperate op src s) (.withFlags (.ofRegs [.a]) ⟨true, true, true, true⟩) := by
  cases op with
  | cp => exact absurd rfl h
  | add | adc | sub | sbc | and | xor | or => exact (setReg_frame s .a _).setFlags (.all _ _)

theorem aluOperate_cp_frame (s : State) (src : AluSrc) :
    Frame s (aluOperate .cp src s) (.withFlags .empty ⟨true, true, true, true⟩) :=
  (frame_refl s).setFlags (.all _ _)

theorem complementA_frame (s : State) : Frame s (complementA s) (.withFlags (.ofRegs [.a]) ⟨true, true, true, true⟩) :=
  (setReg_frame s .a _).setFlags (.all _ _)

theorem rotateA_frame (s : State) (op : RotOp) :
    Frame s (rotateA op s) (.withFlags (.ofRegs [.a]) ⟨true, true, true, true⟩) :=
  (setReg_frame s .a _).setFlags (.all _ _)

theorem decimalAdjust_frame (s : State) :
    Frame s (decimalAdjust s) (.withFlags (.ofRegs [.a]) ⟨true, false, true, true⟩) :=
  (setReg_frame s .a _).setFlags (.keepN _ _ _ _)

theorem setCarry_frame (s : State) : Frame s (setCarry s) (.withFlags .empty ⟨false, true, true, true⟩) :=
  (frame_refl s).setFlags (.keepZ _ _ _ _)

theorem complementCarry_frame (s : State) : Frame s (complementCarry s) (.withFlags .empty ⟨false, true, true, true⟩) :=
  (frame_refl s).setFlags (.keepZ _ _ _ _)

theorem addToHL_frame (s : State) (p : Pair) : Frame s (addToHL p s) (.withFlags (.pair .hl) ⟨false, true, true, true⟩) :=
  (setPair_frame s .hl _).setFlags (.keepZ _ _ _ _)

theorem spPlusTo_frame (s : State) (dst : Pair) (e8 : Byte) :
    Frame s (spPlusTo dst e8 s) (.withFlags (.pair dst) ⟨true, true, true, true⟩) :=
  (setPair_frame s dst _).setFlags (.all _ _)

theorem pushWord_frame (s : State) (v : Word) : Frame s (pushWord v s) (.push s) where
  sp := nofun
  read b hb := by
    obtain ⟨hlow, hhigh⟩ : b ≠ s.sp - 2 ∧ b ≠ s.sp - 2 + 1 := by
      simpa [Footprint.push, Footprint.store] using hb
    rw [pushWord_read, if_neg hhigh, if_neg hlow]

theorem popState_frame (s : State) : Frame s (popState s) (.popTo []) where
  sp := nofun

/-- What `POP rp2` may change (R203): SP and the halves of the pair, which for AF are A and all four flags (R34). -/
def Footprint.pop : Pair2 → Footprint
  | .bc => .popTo [.b, .c]
  | .de => .popTo [.d, .e]
  | .hl => .popTo [.h, .l]
  | .af => .withFlags (.popTo [.a]) ⟨true, true, true, true⟩

theorem popTo_frame (s : State) (p : Pair2) (v : Word) : Frame s ((popState s).setPair2 p v) (.pop p) where
  reg q hq := by
    cases p <;> cases q <;>
      simp_all [State.setPair2, State.setPair, State.reg, Footprint.pop, Footprint.popTo, Footprint.ofRegs, Footprint.withFlags]
  sp := by cases p <;> nofun
  flags := by
    cases p with
    | af => exact .all _ _
    | bc | de | hl => exact .refl _ _

theorem jumpRelative_frame (s : State) (e8 : Byte) : Frame s (jumpRelative e8 s) .jumpRel := by
  obtain ⟨-, -, h⟩ | ⟨-, h⟩ := jumpRelative_cases e8 s <;> rw [h]
  · exact { (frame_refl s).setPc _ with runState := nofun }
  · exact { raiseFault_frame s .jumpRange with pc := nofun }

theorem callTo_frame (s : State) (target : Word) : Frame s (callTo target s) (.call s) :=
  (pushWord_frame s s.pc).setPc target

theorem returnFrom_frame (s : State) : Frame s (returnFrom s) .ret :=
  (popState_frame s).setPc (popValue s)

/-- A conditional instruction that is not taken changes nothing (R271). -/
theorem whenCond_frame {s : State} {op : State → State} {fp : Footprint} (cc : Cond) (h : Frame s (op s) fp) :
    Frame s (whenCond cc op s) (.when (condHolds cc s.flags) fp) := by
  obtain ⟨hc, e⟩ | ⟨hc, e⟩ := whenCond_cases cc op s <;> rw [e, hc]
  · exact h
  · exact frame_refl s

/-! ### Every instruction -/

/-- What an instruction can do: it answers a next state that differs at most where its row of `footprint` allows. -/
theorem exec_frame (i : Instr) (s : State) : ∃ t, exec i s = .next t ∧ Frame s t (footprint i s) := by
  cases i with
  | nop => exact ⟨_, rfl, frame_refl s⟩
  | ld_b_d8 _ | ld_c_d8 _ | ld_d_d8 _ | ld_e_d8 _ | ld_h_d8 _ | ld_l_d8 _ | ld_a_d8 _ | ld_b_b | ld_b_c | ld_b_d | ld_b_e
  | ld_b_h | ld_b_l | ld_b_a | ld_c_b | ld_c_c | ld_c_d | ld_c_e | ld_c_h | ld_c_l | ld_c_a | ld_d_b | ld_d_c | ld_d_d | ld_d_e
  | ld_d_h | ld_d_l | ld_d_a | ld_e_b | ld_e_c | ld_e_d | ld_e_e | ld_e_h | ld_e_l | ld_e_a | ld_h_b | ld_h_c | ld_h_d | ld_h_e
  | ld_h_h | ld_h_l | ld_h_a | ld_l_b | ld_l_c | ld_l_d | ld_l_e | ld_l_h | ld_l_l | ld_l_a | ld_a_b | ld_a_c | ld_a_d | ld_a_e
  | ld_a_h | ld_a_l | ld_a_a | ldh_a_a8 _ | ld_a_a16 _ | ld_a_atBC | ld_a_atDE | ld_b_atHL | ld_c_atHL | ld_d_atHL | ld_e_atHL
  | ld_h_atHL | ld_l_atHL | ld_a_atHL | ld_a_atC => exact ⟨_, rfl, setReg_frame s _ _⟩
  | ld_bc_d16 _ | ld_de_d16 _ | ld_hl_d16 _ | ld_sp_d16 _ | ld_sp_hl | inc_bc | inc_de | inc_hl | inc_sp | dec_bc | dec_de
  | dec_hl | dec_sp => exact ⟨_, rfl, setPair_frame s _ _⟩
  | ld_atHL_d8 _ | ldh_a8_a _ | ld_a16_a _ | ld_atBC_a | ld_atDE_a | ld_atHL_b | ld_atHL_c | ld_atHL_d | ld_atHL_e | ld_atHL_h
  | ld_atHL_l | ld_atHL_a | ld_atC_a => exact ⟨_, rfl, write_frame s _ _⟩
  | ld_a16_sp _ => exact ⟨_, rfl, writeWord_frame s _ _⟩
  | ld_atHLinc_a | ld_atHLdec_a => exact ⟨_, rfl, storeAMoveHL_frame s _⟩
  | ld_a_atHLinc | ld_a_atHLdec => exact ⟨_, rfl, loadAMoveHL_frame s _⟩
  | inc_b | inc_c | inc_d | inc_e | inc_h | inc_l | inc_atHL | inc_a => exact ⟨_, rfl, incOperand_frame s _⟩
  | dec_b | dec_c | dec_d | dec_e | dec_h | dec_l | dec_atHL | dec_a => exact ⟨_, rfl, decOperand_frame s _⟩
  | push_bc | push_de | push_hl | push_af => exact ⟨_, rfl, pushWord_frame s _⟩
  | pop_bc | pop_de | pop_hl | pop_af => exact ⟨_, rfl, popTo_frame s _ _⟩
  | add_a_d8 _ | adc_a_d8 _ | sub_a_d8 _ | sbc_a_d8 _ | and_a_d8 _ | xor_a_d8 _ | or_a_d8 _ | add_a_b | add_a_c | add_a_d
  | add_a_e | add_a_h | add_a_l | add_a_atHL | add_a_a | adc_a_b | adc_a_c | adc_a_d | adc_a_e | adc_a_h | adc_a_l | adc_a_atHL
  | adc_a_a | sub_a_b | sub_a_c | sub_a_d | sub_a_e | sub_a_h | sub_a_l | sub_a_atHL | sub_a_a | sbc_a_b | sbc_a_c | sbc_a_d
  | sbc_a_e | sbc_a_h | sbc_a_l | sbc_a_atHL | sbc_a_a | and_a_b | and_a_c | and_a_d | and_a_e | and_a_h | and_a_l | and_a_atHL
  | and_a_a | xor_a_b | xor_a_c | xor_a_d | xor_a_e | xor_a_h | xor_a_l | xor_a_atHL | xor_a_a | or_a_b | or_a_c | or_a_d
  | or_a_e | or_a_h | or_a_l | or_a_atHL | or_a_a => exact ⟨_, rfl, aluOperate_frame s _ _ nofun⟩
  | cp_a_d8 _ | cp_a_b | cp_a_c | cp_a_d | cp_a_e | cp_a_h | cp_a_l | cp_a_atHL | cp_a_a =>
    exact ⟨_, rfl, aluOperate_cp_frame s _⟩
  | cpl => exact ⟨_, rfl, complementA_frame s⟩
  | rlca | rrca | rla | rra => exact ⟨_, rfl, rotateA_frame s _⟩
  | daa => exact ⟨_, rfl, decimalAdjust_frame s⟩
  | scf => exact ⟨_, rfl, setCarry_frame s⟩
  | ccf => exact ⟨_, rfl, complementCarry_frame s⟩
  | add_hl_bc | add_hl_de | add_hl_hl | add_hl_sp => exact ⟨_, rfl, addToHL_frame s _⟩
  | add_sp_e8 _ | ld_hl_sp_e8 _ => exact ⟨_, rfl, spPlusTo_frame s _ _⟩
  | jp_a16 _ | jp_hl => exact ⟨_, rfl, (frame_refl s).setPc _⟩
  | jr_e8 _ => exact ⟨_, rfl, jumpRelative_frame s _⟩
  | call_a16 _ | rst_00h | rst_08h | rst_10h | rst_18h | rst_20h | rst_28h | rst_30h | rst_38h =>
    exact ⟨_, rfl, callTo_frame s _⟩
  | ret => exact ⟨_, rfl, returnFrom_frame s⟩
  | reti => exact ⟨_, rfl, (returnFrom_frame s).setIme true⟩
  | jr_nz_e8 _ | jr_z_e8 _ | jr_nc_e8 _ | jr_c_e8 _ => exact ⟨_, rfl, whenCond_frame _ (jumpRelative_frame s _)⟩
  | jp_nz_a16 _ | jp_z_a16 _ | jp_nc_a16 _ | jp_c_a16 _ => exact ⟨_, rfl, whenCond_frame _ ((frame_refl s).setPc _)⟩
  | call_nz_a16 _ | call_z_a16 _ | call_nc_a16 _ | call_c_a16 _ => exact ⟨_, rfl, whenCond_frame _ (callTo_frame s _)⟩
  | ret_nz | ret_z | ret_nc | ret_c => exact ⟨_, rfl, whenCond_frame _ (returnFrom_frame s)⟩
  | di | ei => exact ⟨_, rfl, (frame_refl s).setIme _⟩
  | stop _ | halt => exact ⟨_, rfl, haltWith_frame s _⟩
  | prefix_cb | illegal_d3 | illegal_db | illegal_dd | illegal_e3 | illegal_e4 | illegal_eb | illegal_ec | illegal_ed
  | illegal_f4 | illegal_fc | illegal_fd => exact ⟨_, rfl, raiseFault_frame s .decode⟩
  | rlc_b | rlc_c | rlc_d | rlc_e | rlc_h | rlc_l | rlc_atHL | rlc_a | rrc_b | rrc_c | rrc_d | rrc_e | rrc_h | rrc_l | rrc_atHL
  | rrc_a | rl_b | rl_c | rl_d | rl_e | rl_h | rl_l | rl_atHL | rl_a | rr_b | rr_c | rr_d | rr_e | rr_h | rr_l | rr_atHL | rr_a
  | sla_b | sla_c | sla_d | sla_e | sla_h | sla_l | sla_atHL | sla_a | sra_b | sra_c | sra_d | sra_e | sra_h | sra_l | sra_atHL
  | sra_a | swap_b | swap_c | swap_d | swap_e | swap_h | swap_l | swap_atHL | swap_a | srl_b | srl_c | srl_d | srl_e | srl_h
  | srl_l | srl_atHL | srl_a => exact ⟨_, rfl, rotOperand_frame s _ _⟩
  | bit_0_b | bit_0_c | bit_0_d | bit_0_e | bit_0_h | bit_0_l | bit_0_atHL | bit_0_a | bit_1_b | bit_1_c | bit_1_d | bit_1_e
  | bit_1_h | bit_1_l | bit_1_atHL | bit_1_a | bit_2_b | bit_2_c | bit_2_d | bit_2_e | bit_2_h | bit_2_l | bit_2_atHL | bit_2_a
  | bit_3_b | bit_3_c | bit_3_d | bit_3_e | bit_3_h | bit_3_l | bit_3_atHL | bit_3_a | bit_4_b | bit_4_c | bit_4_d | bit_4_e
  | bit_4_h | bit_4_l | bit_4_atHL | bit_4_a | bit_5_b | bit_5_c | bit_5_d | bit_5_e | bit_5_h | bit_5_l | bit_5_atHL | bit_5_a
  | bit_6_b | bit_6_c | bit_6_d | bit_6_e | bit_6_h | bit_6_l | bit_6_atHL | bit_6_a | bit_7_b | bit_7_c | bit_7_d | bit_7_e
  | bit_7_h | bit_7_l | bit_7_atHL | bit_7_a => exact ⟨_, rfl, testBit_frame s _ _⟩
  -- RES and SET (R310, R311)
  | _ => exact ⟨_, rfl, setOpd_frame s _ _⟩

/-- The frame of an instruction whose next state is given. -/
theorem frame_of_exec {i : Instr} {s t : State} (h : exec i s = .next t) : Frame s t (footprint i s) := by
  obtain ⟨t', he, hframe⟩ := exec_frame i s
  rw [he] at h
  injection h with h
  exact h ▸ hframe

/-- A conditional instruction writes IME only if its effect does (R271). -/
theorem Footprint.when_ime_false {taken : Bool} {fp : Footprint} (h : fp.ime = false) : (Footprint.when taken fp).ime = false := by
  cases taken
  · rfl
  · exact h

theorem Footprint.when_run_false {taken : Bool} {fp : Footprint} (h : fp.run = false) : (Footprint.when taken fp).run = false := by
  cases taken
  · rfl
  · exact h

/-- Only EI, DI and RETI write IME (R40). -/
theorem footprint_ime_false {i : Instr} (s : State) (hei : i ≠ .ei) (hdi : i ≠ .di) (hreti : i ≠ .reti) :
    (footprint i s).ime = false := by
  cases i with
  | ei => exact absurd rfl hei
  | di => exact absurd rfl hdi
  | reti => exact absurd rfl hreti
  | jr_nz_e8 _ | jr_z_e8 _ | jr_nc_e8 _ | jr_c_e8 _ | jp_nz_a16 _ | jp_z_a16 _ | jp_nc_a16 _ | jp_c_a16 _ | call_nz_a16 _
  | call_z_a16 _ | call_nc_a16 _ | call_c_a16 _ | ret_nz | ret_z | ret_nc | ret_c => exact Footprint.when_ime_false rfl
  | _ => rfl

/-- Only HALT, STOP, JR e8, JR cc and the rows without a descriptor write the run state (R180, R215, R320). -/
theorem footprint_run_false {i : Instr} (s : State) (hhalt : i ≠ .halt) (hstop : ∀ x, i ≠ .stop x) (hjr : ∀ x, i ≠ .jr_e8 x)
    (hjrCond : ∀ cc x, i ≠ .jrCond cc x) (hwf : i.wellFormed = true) : (footprint i s).run = false := by
  cases i with
  | halt => exact absurd rfl hhalt
  | stop x => exact absurd rfl (hstop x)
  | jr_e8 x => exact absurd rfl (hjr x)
  | jr_nz_e8 x => exact absurd rfl (hjrCond .nz x)
  | jr_z_e8 x => exact absurd rfl (hjrCond .z x)
  | jr_nc_e8 x => exact absurd rfl (hjrCond .nc x)
  | jr_c_e8 x => exact absurd rfl (hjrCond .c x)
  | prefix_cb | illegal_d3 | illegal_db | illegal_dd | illegal_e3 | illegal_e4 | illegal_eb | illegal_ec | illegal_ed | illegal_f4
  | illegal_fc | illegal_fd => exact absurd hwf Bool.false_ne_true
  | jp_nz_a16 _ | jp_z_a16 _ | jp_nc_a16 _ | jp_c_a16 _ | call_nz_a16 _ | call_z_a16 _ | call_nc_a16 _ | call_c_a16 _ | ret_nz
  | ret_z | ret_nc | ret_c => exact Footprint.when_run_false rfl
  | _ => rfl

/-! ### The frame statements -/

/-- Settles O49: the flags of the instruction's frame. -/
theorem flagFrame : Obligations.FlagFrame := by
  intro i s t h
  obtain ⟨hz, hn, hh, hc⟩ := (frame_of_exec h).flags
  exact ⟨hz, hn, hh, hc⟩

/-- Settles O51: pc, IME and the run state of the instruction's frame, with the rows of `footprint` that write them. -/
theorem controlStateFrame : Obligations.ControlStateFrame := by
  intro i s t h
  have hframe := frame_of_exec h
  refine ⟨hframe.pc, fun hei hdi hreti => ?_, fun hhalt hstop hjr hjrCond hwf => ?_⟩
  · exact hframe.ime (footprint_ime_false s hei hdi hreti)
  · exact hframe.runState (footprint_run_false s hhalt hstop hjr hjrCond hwf)

/-- Settles O52: the part of every frame that no footprint opens. -/
theorem cpuNeverTouchesPpuOrHost : Obligations.CpuNeverTouchesPpuOrHost :=
  fun _ _ _ h => (frame_of_exec h).outside

end Sys2Proof.Machine

/-! PROOF. The state (10_state.md): registers, pairs and the flag byte (R31 to R35), the reset sequence (R49, R380), and that every
step answers a next state and never reopens the display (R46, R353). -/

namespace Sys2Proof.Machine

/-! ### Registers and pairs -/

/-- Settles O18: a read after the write of one register, and the register each write names. -/
theorem registerWriteIsLocal : Obligations.RegisterWriteIsLocal := by
  intro s r v
  refine ⟨?_, fun q hq => ?_, ?_⟩
  · rw [setReg_reg, if_pos rfl]
  · rw [setReg_reg, if_neg hq]
  · cases r <;> rfl

/-- Settles O19: a pair is the word of its halves, and the halves of a word are its quotient and remainder by 256. -/
theorem pairsAreTheirHalves : Obligations.PairsAreTheirHalves := by
  refine ⟨fun s => ⟨?_, ?_, ?_, ?_⟩, fun s v => ⟨hi v, lo v, hi_toNat v, lo_toNat v, rfl, rfl, rfl, rfl⟩, setPair_pair_same⟩
  · exact word_toNat s.b s.c
  · exact word_toNat s.d s.e
  · exact word_toNat s.h s.l
  · exact word_toNat s.a (flagsToByte s.flags)

/-! ### The flag byte -/

/-- The bits of F (R34, R35). -/
theorem flagsToByte_getLsbD (f : Flags) : (flagsToByte f).getLsbD 7 = f.z ∧ (flagsToByte f).getLsbD 6 = f.n ∧
    (flagsToByte f).getLsbD 5 = f.h ∧ (flagsToByte f).getLsbD 4 = f.c ∧ ∀ k < 4, (flagsToByte f).getLsbD k = false := by
  obtain ⟨z, n, h, c⟩ := f
  cases z <;> cases n <;> cases h <;> cases c <;> decide

/-- The low nibble of F is zero (R34). -/
theorem flagsToByte_toNat_mod (f : Flags) : (flagsToByte f).toNat % 16 = 0 := by
  obtain ⟨z, n, h, c⟩ := f
  cases z <;> cases n <;> cases h <;> cases c <;> rfl

/-- A byte written to F reads back without its low nibble (R34, R35). -/
theorem flagsToByte_flagsOfByte (v : Byte) : flagsToByte (flagsOfByte v) = v &&& 0xF0 := by
  obtain ⟨hz, hn, hh, hc, hlow⟩ := flagsToByte_getLsbD (flagsOfByte v)
  apply BitVec.eq_of_getLsbD_eq
  intro k hk
  rw [BitVec.getLsbD_and]
  obtain hk4 | rfl | rfl | rfl | rfl : k < 4 ∨ k = 4 ∨ k = 5 ∨ k = 6 ∨ k = 7 := by omega
  · rw [hlow k hk4]
    interval_cases k <;> simp
  · rw [hc]; exact (Bool.and_true _).symm
  · rw [hh]; exact (Bool.and_true _).symm
  · rw [hn]; exact (Bool.and_true _).symm
  · rw [hz]; exact (Bool.and_true _).symm

/-- AF reads back without the low nibble of F (R33, R34). -/
theorem setPair2_pair2_af (s : State) (v : Word) : (s.setPair2 .af v).pair2 .af = v &&& 0xFFF0 := by
  calc word (hi v) (flagsToByte (flagsOfByte (lo v)))
    _ = word (hi v &&& 0xFF) (lo v &&& 0xF0) := by rw [flagsToByte_flagsOfByte, show hi v &&& 0xFF = hi v from BitVec.and_allOnes]
    _ = word (hi v) (lo v) &&& word 0xFF 0xF0 := BitVec.and_append.symm
    _ = v &&& 0xFFF0 := by rw [word_hi_lo]; rfl

/-- Settles O20: the bits of F, and the reads of F and of AF after a write. -/
theorem flagByteLayout : Obligations.FlagByteLayout := by
  refine ⟨fun f => ?_, flagsToByte_flagsOfByte, setPair2_pair2_af⟩
  obtain ⟨hz, hn, hh, hc, -⟩ := flagsToByte_getLsbD f
  exact ⟨hz, hn, hh, hc, flagsToByte_toNat_mod f⟩

/-! ### A step answers -/

/-- The CPU step answers a next state, with the PPU, the display, the parameters and the host's state as before (R45). -/
theorem process_next (s : State) : ∃ t, process s = .next t ∧ OutsideKept s t := by
  obtain ⟨-, h⟩ | ⟨-, -, h⟩ | ⟨d, -, -, h⟩ := process_cases s
  · exact ⟨s, h, (frame_refl s).outside⟩
  · exact ⟨_, h, (raiseFault_frame s .decode).outside⟩
  · obtain ⟨t, he, hframe⟩ := exec_frame (fetch s) (s.advancePc d.length)
    exact ⟨t, h.trans he, hframe.outside⟩

/-- After the end of a run a step changes nothing (R353, log 6). -/
theorem step_of_runEnded {s : State} (h : runEnded s = true) : step s = .next s := by
  rw [step, driverStep, if_pos h]

/-- Before the end of a run a step is the CPU step, its ticks and the poll (R352). -/
theorem step_of_process {s t : State} (h : runEnded s = false) (hp : process s = .next t) :
    step s = .next (afterCpuStep s t) := by
  rw [step, driverStep, if_neg (by simp [h]), loopIteration, hp]

theorem runEnded_of_display_closed {s : State} (h : s.displayOpen = false) : runEnded s = true := by
  rw [← Bool.not_eq_false, runEnded_iff, h]
  exact fun hrun => Bool.false_ne_true hrun.2

theorem step_next (s : State) : ∃ t, step s = .next t := by
  obtain ⟨t, hp, -⟩ := process_next s
  cases h : runEnded s with
  | true => exact ⟨s, step_of_runEnded h⟩
  | false => exact ⟨_, step_of_process h hp⟩

/-- Settles O13: the frames of the instructions say that each answers, and the step answers with the CPU step. -/
theorem everyInstructionAndStepAnswersANextState : Obligations.EveryInstructionAndStepAnswersANextState := by
  refine ⟨fun i s => ?_, step_next⟩
  obtain ⟨t, h, -⟩ := exec_frame i s
  exact ⟨t, h⟩

/-- Settles O12: a step is nothing, or a CPU step, which leaves the display and the parameters, and what the driver does
after it. -/
theorem displayNeverReopensAndParametersStay : Obligations.DisplayNeverReopensAndParametersStay := by
  refine ⟨fun s h => step_of_runEnded (runEnded_of_display_closed h), fun s t h => ?_⟩
  obtain ⟨-, rfl⟩ | ⟨-, u, hp, rfl⟩ := step_cases h
  · exact ⟨id, rfl⟩
  · obtain ⟨u', hp', -, hdisplay, hcfg, -⟩ := process_next s
    obtain rfl : u' = u := by rw [hp] at hp'; injection hp' with e; exact e.symm
    obtain ⟨p, o, answers, frames, hafter, hopen⟩ := afterCpuStep_frame s u'
    rw [hafter]
    exact ⟨fun ho => hdisplay ▸ hopen ho, hcfg⟩

/-! ### Reset -/

/-- Settles O15: `State.reset` is the result of the reset sequence for the default parameters and the empty image. -/
theorem resetMeetsTheInvariant : Obligations.ResetMeetsTheInvariant :=
  launch_inv (cfg := Config.default) (image := []) (answers := []) rfl

/-- An image is read at the addresses from 0x0000 (R66); the bytes beyond the last address are dropped (log 14). -/
theorem Memory.read_ofImage (image : List Byte) (a : Word) :
    Memory.read (Memory.ofImage image) a.toNat = if a.toNat < image.length then image.getD a.toNat 0 else 0 := by
  have htake : (image.take 0x10000).getD a.toNat 0 = image.getD a.toNat 0 := by
    rw [List.getD_eq_getElem?_getD, List.getElem?_take_of_lt a.isLt, List.getD_eq_getElem?_getD]
  rw [Memory.ofImage, Memory.read_ofImageFrom, if_neg (Nat.not_lt_zero _), Nat.sub_zero, htake]
  split
  · rfl
  · rename_i hlength
    exact List.getD_eq_default _ _ (Nat.le_of_not_lt hlength)

/-- `start()` is the PPU at its first tick and a frame (R345, R350). -/
theorem ppuStart_eq (s : State) :
    ppuStart s = { s with
      frames := s.frames + 1, hostAnswers := s.hostAnswers.tail, displayOpen := s.displayOpen && s.hostAnswer,
      ppu := if s.displayOpen && s.hostAnswer then s.ppu.start else s.ppu.start.stop } :=
  produceFrame_eq _

/-- The host answers open unless the next of its answers is closed; an exhausted list answers open (R354, log 5). -/
theorem hostAnswer_of_head {s : State} (h : s.hostAnswers.head? ≠ some false) : s.hostAnswer = true := by
  rw [State.hostAnswer, List.headD_eq_head?_getD]
  cases hh : s.hostAnswers.head? with
  | none => rfl
  | some b =>
    cases b with
    | true => rfl
    | false => exact absurd hh h

theorem hostAnswer_of_head_closed {s : State} (h : s.hostAnswers.head? = some false) : s.hostAnswer = false := by
  rw [State.hostAnswer, List.headD_eq_head?_getD, h, Option.getD_some]

/-- The reset sequence where the host does not close the display at the frame of `start()` (R380). -/
theorem ppuStart_powerOn_open (cfg : Config) (image : List Byte) {answers : List Bool} (h : answers.head? ≠ some false) :
    ppuStart (powerOn cfg image answers) =
      { powerOn cfg image answers with
        ppu := { mode := .oamSearch, ly := 0, dot := 0 }, hostAnswers := answers.tail, frames := 1 } := by
  rw [ppuStart_eq, hostAnswer_of_head (s := powerOn cfg image answers) h]
  rfl

/-- The reset sequence where the host closes the display there: the frame stops the PPU (R350, R380). -/
theorem ppuStart_powerOn_closed (cfg : Config) (image : List Byte) {answers : List Bool} (h : answers.head? = some false) :
    (ppuStart (powerOn cfg image answers)).ppu.mode = .off ∧ (ppuStart (powerOn cfg image answers)).displayOpen = false := by
  rw [ppuStart_eq, hostAnswer_of_head_closed (s := powerOn cfg image answers) h]
  exact ⟨rfl, rfl⟩

/-- Settles O17: the reset sequence is the refusal, or `start()` on the state with the registers and the image loaded. -/
theorem launchGivesTheResetState : Obligations.LaunchGivesTheResetState := by
  intro cfg image answers
  refine ⟨fun hlong => if_pos hlong, fun hfits =>
    ⟨ppuStart (powerOn cfg image answers), if_neg (Nat.not_lt_of_le hfits), fun a => ?_, fun hopen => ?_, fun hclosed => ?_⟩⟩
  · have hmem : (ppuStart (powerOn cfg image answers)).mem = Memory.ofImage image := by rw [ppuStart_eq]; rfl
    rw [State.read, State.busRead, hmem, Memory.read_ofImage]
  · rw [ppuStart_powerOn_open cfg image hopen]
    rfl
  · obtain ⟨hppu, hdisplay⟩ := ppuStart_powerOn_closed cfg image hclosed
    exact ⟨hppu, hdisplay, step_of_runEnded (runEnded_of_display_closed hdisplay)⟩

end Sys2Proof.Machine

/-! PROOF. Memory (20_memory.md): the byte and the word access (R61 to R64, R69, R70), the fetch after a store (R77), and the bytes
an instruction leaves (R71). -/

namespace Sys2Proof.Machine

/-! ### Byte and word accesses -/

/-- Settles O21: the read after a write and the canonical form are those of the bus; no other field is in the write. -/
theorem byteWriteChangesOneByte : Obligations.ByteWriteChangesOneByte :=
  fun s x v => ⟨rfl, fun y => write_read s x y v, write_wf x v⟩

/-- The address after `x`, with the wrap at 0xFFFF (R62, R70). -/
theorem ofNat_succ_mod (x : Word) : BitVec.ofNat 16 ((x.toNat + 1) % 65536) = x + 1 := by
  apply BitVec.eq_of_toNat_eq
  rw [BitVec.toNat_ofNat, BitVec.toNat_add]
  exact Nat.mod_mod _ _

/-- The two bytes of a word never lie at one address, at the wrap either. -/
theorem ne_add_one (x : Word) : x ≠ x + 1 := by bv_omega

/-- A word reads back as it was written (R62, R63). -/
theorem writeWord_readWord (s : State) (x v : Word) : (s.writeWord x v).readWord x = v := by
  rw [State.readWord, writeWord_read, writeWord_read, if_pos rfl, if_neg (ne_add_one x), if_pos rfl, word_hi_lo]

/-- Settles O22: the word of the two bytes, and the bytes after a word write with the byte at `x` told first. -/
theorem wordAccessIsLittleEndianAndWraps : Obligations.WordAccessIsLittleEndianAndWraps := by
  intro s x v
  rw [ofNat_succ_mod]
  refine ⟨word_toNat _ _, fun y => ?_, writeWord_readWord s x v⟩
  rw [writeWord_read]
  by_cases hy : y = x
  · subst hy
    rw [if_neg (ne_add_one y), if_pos rfl, if_pos rfl]
  · rw [if_neg hy, if_neg hy]

/-! ### Fetch -/

/-- Three bytes always decode, to the instruction a fetch of them gives (R94, log 15). -/
theorem decode_three_bytes (b0 b1 b2 : Byte) : ∃ rest, decode [b0, b1, b2] = .ok (decodeAt b0 b1 b2, rest) := by
  cases hform : formOf b0 with
  | one i => exact ⟨[b1, b2], by simp only [decode, decodeAt, hform]⟩
  | imm8 f => exact ⟨[b2], by simp only [decode, decodeAt, hform]⟩
  | imm16 f => exact ⟨[], by simp only [decode, decodeAt, hform]⟩
  | escape => exact ⟨[b2], by simp only [decode, decodeAt, hform]⟩

/-- The fetched instruction is the one the three bytes at pc decode to (R94). -/
theorem fetch_of_decode {s : State} {i : Instr} {rest : List Byte}
    (h : decode [s.read s.pc, s.read (s.pc + 1), s.read (s.pc + 2)] = .ok (i, rest)) : fetch s = i := by
  obtain ⟨rest', h'⟩ := decode_three_bytes (s.read s.pc) (s.read (s.pc + 1)) (s.read (s.pc + 2))
  exact congrArg Prod.fst (Except.ok.inj (h'.symm.trans h))

/-- Settles O23: a fetch reads memory through `State.read`, so it sees the written byte. -/
theorem fetchReadsMemoryAsItIs : Obligations.FetchReadsMemoryAsItIs := by
  intro s x v i rest h
  apply fetch_of_decode (rest := rest)
  rwa [write_pc, write_read, write_read, write_read]

/-! ### The bytes an instruction leaves -/

/-- Settles O50: memory in the instruction's frame. -/
theorem memoryFrame : Obligations.MemoryFrame :=
  fun _ _ _ h => (frame_of_exec h).read

end Sys2Proof.Machine

/-! PROOF. The encoding (30_encoding.md): the rows of the opcode maps (R98, R99), the round trip of decoder and encoder in both
directions, the opcodes by their fields (R91, R92), and which bytes have a descriptor (R93, R100). -/

namespace Sys2Proof

/-! ### The unprefixed map -/

/-- The row a form stands for, with the operand bytes it takes; the escape stands for PREFIX CB (R93). -/
inductive Form.HasRow : Form → Instr → List Byte → Prop
  | one (i : Instr) : HasRow (.one i) i []
  | imm8 (f : Byte → Instr) (x : Byte) : HasRow (.imm8 f) (f x) [x]
  | imm16 (f : Word → Instr) (w : Word) : HasRow (.imm16 f) (f w) (bytesLE w)
  | escape : HasRow .escape .prefix_cb []

/-- The unprefixed map agrees with the opcode column of the table (R98, R104). -/
theorem opcodeMap_row {high low : Fin 16} {i : Instr} {operands : List Byte} (h : (opcodeMap high low).HasRow i operands) :
    i.row.key = 16 * high.val + low.val ∧ i.row.operands = operands := by
  fin_cases high <;> fin_cases low <;> cases h <;> exact ⟨rfl, rfl⟩

/-- The two nibbles are the whole byte. -/
theorem nibbles_toNat (op : Byte) :
    16 * (op.extractLsb' 4 4).toFin.val + (op.extractLsb' 0 4).toFin.val = op.toNat := by
  have hop := op.isLt
  simp only [BitVec.val_toFin, BitVec.extractLsb'_toNat, Nat.shiftRight_eq_div_pow]
  omega

theorem row_of_hasRow {op : Byte} {i : Instr} {operands : List Byte} (h : (formOf op).HasRow i operands) :
    i.row.key = op.toNat ∧ i.row.operands = operands := by
  rw [← nibbles_toNat op]
  exact opcodeMap_row h

theorem encode_of_hasRow {op : Byte} {i : Instr} {operands : List Byte} (h : (formOf op).HasRow i operands) :
    encode i = op :: operands := by
  obtain ⟨hkey, hoperands⟩ := row_of_hasRow h
  rw [encode, keyBytes, hkey, hoperands, if_pos op.isLt, BitVec.ofNat_toNat, BitVec.setWidth_eq]
  rfl

theorem encode_one {op : Byte} {i : Instr} (h : formOf op = .one i) : encode i = [op] :=
  encode_of_hasRow (h ▸ .one i)

theorem encode_imm8 {op : Byte} {f : Byte → Instr} (h : formOf op = .imm8 f) (x : Byte) : encode (f x) = [op, x] :=
  encode_of_hasRow (h ▸ .imm8 f x)

theorem encode_imm16 {op : Byte} {f : Word → Instr} (h : formOf op = .imm16 f) (w : Word) : encode (f w) = [op, lo w, hi w] :=
  encode_of_hasRow (h ▸ .imm16 f w)

/-- Only the byte 0xCB is the escape (R93). -/
theorem eq_of_formOf_escape {op : Byte} (h : formOf op = .escape) : op = 0xCB := by
  obtain ⟨hkey, -⟩ := row_of_hasRow (h ▸ .escape : (formOf op).HasRow .prefix_cb [])
  exact BitVec.eq_of_toNat_eq hkey.symm

/-! ### The 0xCB map -/

/-- The fields `x`, `y` and `z` are the whole byte (R91). -/
theorem fields_toNat (op : Byte) : 64 * (fieldX op).val + 8 * (fieldY op).val + (fieldZ op).val = op.toNat := by
  have hop := op.isLt
  simp only [fieldX, fieldY, fieldZ, BitVec.val_toFin, BitVec.extractLsb'_toNat, Nat.shiftRight_eq_div_pow]
  omega

theorem Opd8.code_ofCode (z : Fin 8) : (Opd8.ofCode z).code = z.val := by
  revert z; decide

theorem RotOp.code_ofCode (y : Fin 8) : (RotOp.ofCode y).code = y.val := by
  revert y; decide

/-- The instruction has the row of the second byte `op2` in the 0xCB table (R93, R104). -/
def Instr.IsCbRow (i : Instr) (op2 : Byte) : Prop :=
  ∃ name cycles, i.row = .cb (0xCB00 + op2.toNat) name cycles

theorem rot_isCbRow (op : RotOp) (o : Opd8) : (Instr.rot op o).IsCbRow (BitVec.ofNat 8 (8 * op.code + o.code)) := by
  cases op <;> obtain ⟨⟨⟩⟩ | ⟨⟩ := o <;> exact ⟨_, _, rfl⟩

theorem bit_isCbRow (y : Fin 8) (o : Opd8) : (Instr.bit y o).IsCbRow (BitVec.ofNat 8 (0x40 + 8 * y.val + o.code)) := by
  fin_cases y <;> obtain ⟨⟨⟩⟩ | ⟨⟩ := o <;> exact ⟨_, _, rfl⟩

theorem res_isCbRow (y : Fin 8) (o : Opd8) : (Instr.res y o).IsCbRow (BitVec.ofNat 8 (0x80 + 8 * y.val + o.code)) := by
  fin_cases y <;> obtain ⟨⟨⟩⟩ | ⟨⟩ := o <;> exact ⟨_, _, rfl⟩

theorem set_isCbRow (y : Fin 8) (o : Opd8) : (Instr.set y o).IsCbRow (BitVec.ofNat 8 (0xC0 + 8 * y.val + o.code)) := by
  fin_cases y <;> obtain ⟨⟨⟩⟩ | ⟨⟩ := o <;> exact ⟨_, _, rfl⟩

/-- The 0xCB map agrees with the opcode column of the table (R99, R104). -/
theorem cbInstr_isCbRow (op2 : Byte) : (cbInstr op2).IsCbRow op2 := by
  have hfields : BitVec.ofNat 8 (64 * (fieldX op2).val + 8 * (fieldY op2).val + (fieldZ op2).val) = op2 := by
    rw [fields_toNat, BitVec.ofNat_toNat, BitVec.setWidth_eq]
  rw [cbInstr]
  generalize fieldX op2 = x, fieldY op2 = y, fieldZ op2 = z at hfields ⊢
  rw [← hfields, ← Opd8.code_ofCode z]
  fin_cases x
  · rw [← RotOp.code_ofCode y, Nat.mul_zero, Nat.zero_add]
    exact rot_isCbRow (RotOp.ofCode y) (Opd8.ofCode z)
  · exact bit_isCbRow y (Opd8.ofCode z)
  · exact res_isCbRow y (Opd8.ofCode z)
  · exact set_isCbRow y (Opd8.ofCode z)

theorem encode_of_isCbRow {i : Instr} {op2 : Byte} (h : i.IsCbRow op2) : encode i = [0xCB, op2] := by
  obtain ⟨name, cycles, hrow⟩ := h
  have hop2 := op2.isLt
  have hescape : (0xCB00 + op2.toNat) / 256 = 0xCB := by omega
  have hsecond : BitVec.ofNat 8 (0xCB00 + op2.toNat) = op2 := by
    apply BitVec.eq_of_toNat_eq
    rw [BitVec.toNat_ofNat]
    omega
  calc encode i
    _ = keyBytes (0xCB00 + op2.toNat) ++ [] := by rw [encode, hrow]; rfl
    _ = [0xCB, op2] := by rw [keyBytes, if_neg (by omega), hescape, hsecond]; rfl

/-- A row of the 0xCB table belongs to the extension layer, so it has a descriptor exactly under `SM83_EXT` (R93). -/
theorem descriptor?_of_isCbRow {i : Instr} {op2 : Byte} (h : i.IsCbRow op2) :
    i.row.layer = .ext ∧ (∃ d, i.descriptor? true = some d) ∧ i.descriptor? false = none := by
  obtain ⟨name, cycles, hrow⟩ := h
  refine ⟨by rw [hrow]; rfl, ⟨⟨name, 2, cycles, cycles, true⟩, ?_⟩, ?_⟩
  · rw [Instr.descriptor?, hrow]; rfl
  · rw [Instr.descriptor?, hrow]; rfl

/-! ### The round trip -/

/-- What the decoder can answer: the row of the first byte with its operand bytes, or, after the escape, the instruction of the
second byte (R94, R95). -/
theorem decode_cases {op : Byte} {tail rest : List Byte} {i : Instr} (h : decode (op :: tail) = .ok (i, rest)) :
    (∃ operands, (formOf op).HasRow i operands ∧ tail = operands ++ rest) ∨
    (op = 0xCB ∧ ∃ op2, i = cbInstr op2 ∧ tail = op2 :: rest) := by
  simp only [decode] at h
  split at h
  next hform => cases h; exact .inl ⟨[], hform ▸ .one i, rfl⟩
  next f x _ hform => cases h; exact .inl ⟨[x], hform ▸ .imm8 f x, rfl⟩
  next f l u _ hform =>
    cases h
    have hbytes : bytesLE (word u l) = [l, u] := by rw [bytesLE, lo_word, hi_word]
    exact .inl ⟨[l, u], hform ▸ hbytes ▸ .imm16 f (word u l), rfl⟩
  next op2 _ hform => cases h; exact .inr ⟨eq_of_formOf_escape hform, op2, rfl, rfl⟩
  next hform => cases h; exact .inl ⟨[], hform ▸ .escape, rfl⟩
  all_goals cases h

/-- Settles O3: each answer of the decoder has the bytes it read in its row of the table. -/
theorem decodedBytesAreTheEncoding : Obligations.DecodedBytesAreTheEncoding := by
  intro bs i rest h
  cases bs with
  | nil => cases h
  | cons op tail =>
    obtain ⟨operands, hrow, rfl⟩ | ⟨rfl, op2, rfl, rfl⟩ := decode_cases h
    · rw [encode_of_hasRow hrow]; rfl
    · rw [encode_of_isCbRow (cbInstr_isCbRow op2)]; rfl

/-- The round trip of a constructor with a byte operand that the map holds at its own key. -/
theorem decode_encode_imm8 {f : Byte → Instr} (h : formOf (BitVec.ofNat 8 (f 0).row.key) = .imm8 f) (x : Byte)
    (rest : List Byte) : decode (encode (f x) ++ rest) = .ok (f x, rest) := by
  rw [encode_imm8 h]
  simp only [List.cons_append, List.nil_append, decode, h]

/-- The round trip of a constructor with a word operand that the map holds at its own key. -/
theorem decode_encode_imm16 {f : Word → Instr} (h : formOf (BitVec.ofNat 8 (f 0).row.key) = .imm16 f) (w : Word)
    (rest : List Byte) : decode (encode (f w) ++ rest) = .ok (f w, rest) := by
  rw [encode_imm16 h]
  simp only [List.cons_append, List.nil_append, decode, h, word_hi_lo]

/-- Settles O2: the decoder finds every constructor at the key of its row; one without operands is found by evaluation. -/
theorem decodeOfEncodeIsTheInstruction : Obligations.DecodeOfEncodeIsTheInstruction := by
  intro i rest h
  cases i with
  | prefix_cb => exact absurd rfl h
  | ld_b_d8 x | ld_c_d8 x | stop x | ld_d_d8 x | jr_e8 x | ld_e_d8 x | jr_nz_e8 x | ld_h_d8 x | jr_z_e8 x | ld_l_d8 x | jr_nc_e8 x
  | ld_atHL_d8 x | jr_c_e8 x | ld_a_d8 x | add_a_d8 x | adc_a_d8 x | sub_a_d8 x | sbc_a_d8 x | ldh_a8_a x | and_a_d8 x
  | add_sp_e8 x | xor_a_d8 x | ldh_a_a8 x | or_a_d8 x | ld_hl_sp_e8 x | cp_a_d8 x => exact decode_encode_imm8 rfl x rest
  | ld_bc_d16 w | ld_a16_sp w | ld_de_d16 w | ld_hl_d16 w | ld_sp_d16 w | jp_nz_a16 w | jp_a16 w | call_nz_a16 w | jp_z_a16 w
  | call_z_a16 w | call_a16 w | jp_nc_a16 w | call_nc_a16 w | jp_c_a16 w | call_c_a16 w | ld_a16_a w | ld_a_a16 w =>
    exact decode_encode_imm16 rfl w rest
  | _ => rfl

/-- A row of the 0xCB table is decoded from the escape and its second byte (R94). -/
theorem decode_of_isCbRow {i : Instr} {op2 : Byte} (h : i.IsCbRow op2) : decode [0xCB, op2] = .ok (i, []) := by
  have hne : i ≠ .prefix_cb := by
    rintro rfl
    obtain ⟨hlayer, -⟩ := descriptor?_of_isCbRow h
    cases hlayer
  rw [← encode_of_isCbRow h, ← List.append_nil (encode i)]
  exact decodeOfEncodeIsTheInstruction i [] hne

/-! ### The opcodes by their fields -/

/-- Settles O4: each unprefixed opcode composed from the fields stands at its place in the opcode map. -/
theorem opcodesFollowTheirFields : Obligations.OpcodesFollowTheirFields := by
  refine ⟨fun dst r => encode_one ?_, fun dst n => encode_imm8 ?_ n, fun p w => encode_imm16 ?_ w, fun dst => encode_one ?_,
    fun r => encode_one ?_, fun o => ⟨encode_one ?_, encode_one ?_⟩,
    fun p => ⟨encode_one ?_, encode_one ?_, encode_one ?_⟩, fun op o => encode_one ?_,
    fun op n => encode_imm8 (f := fun n => Instr.alu op (.imm n)) ?_ n, fun p => ⟨encode_one ?_, encode_one ?_⟩,
    fun y => encode_one ?_, fun cc x w => ⟨encode_imm8 ?_ x, encode_imm16 ?_ w, encode_imm16 ?_ w, encode_one ?_⟩,
    fun op o => encode_of_isCbRow (rot_isCbRow op o),
    fun y o => ⟨encode_of_isCbRow (bit_isCbRow y o), encode_of_isCbRow (res_isCbRow y o),
      encode_of_isCbRow (set_isCbRow y o)⟩⟩
  · cases dst <;> cases r <;> rfl
  · cases dst <;> rfl
  · cases p <;> rfl
  · cases dst <;> rfl
  · cases r <;> rfl
  · obtain ⟨⟨⟩⟩ | ⟨⟩ := o <;> rfl
  · obtain ⟨⟨⟩⟩ | ⟨⟩ := o <;> rfl
  · cases p <;> rfl
  · cases p <;> rfl
  · cases p <;> rfl
  · cases op <;> obtain ⟨⟨⟩⟩ | ⟨⟩ := o <;> rfl
  · cases op <;> rfl
  · cases p <;> rfl
  · cases p <;> rfl
  · fin_cases y <;> rfl
  · cases cc <;> rfl
  · cases cc <;> rfl
  · cases cc <;> rfl
  · cases cc <;> rfl

/-- Settles O1: the decoder is evaluated at each word. -/
theorem opcodeWordsDecodeToTheirInstructions : Obligations.OpcodeWordsDecodeToTheirInstructions :=
  ⟨rfl, rfl, rfl, rfl, rfl, rfl, rfl, rfl, rfl, rfl, rfl, rfl, rfl, rfl, rfl, rfl, rfl, rfl⟩

/-! ### The descriptors -/

/-- The descriptors are those of the table (R93). -/
theorem descr_of_descriptor? {i : Instr} {ext : Bool} {d : Descriptor} (h : i.descriptor? ext = some d) :
    i.row.descr = some d := by
  rw [Instr.descriptor?] at h
  cases hlayer : i.row.layer with
  | core => rwa [hlayer] at h
  | ext =>
    rw [hlayer] at h
    exact (Option.ite_none_right_eq_some.mp h).2
  | illegal | escape => rw [hlayer] at h; cases h

/-- The length column and the 0xCB column of the table, row by row (R90, R104). -/
theorem descr_fits_encode (i : Instr) : ∀ d ∈ i.row.descr,
    d.length = (encode i).length ∧ 1 ≤ d.length ∧ d.length ≤ 3 ∧ (d.isCb = true ↔ (encode i).head? = some 0xCB) := by
  cases i <;> exact of_decide_eq_true rfl

/-- Settles O7: a descriptor is the table's, whose columns fit the encoding. -/
theorem descriptorLengthIsTheEncodedLength : Obligations.DescriptorLengthIsTheEncodedLength :=
  fun _ i d h => descr_fits_encode i d (descr_of_descriptor? h)

/-- The keys of the rows without a descriptor: the escape on its own and the illegal bytes (R93, R100). -/
theorem key_of_descriptor?_eq_none {i : Instr} (h : i.descriptor? true = none) :
    i.row.key = 0xCB ∨ i.row.key ∈ Machine.illegalBytes.map BitVec.toNat := by
  cases i with
  | prefix_cb => exact .inl rfl
  | illegal_d3 | illegal_db | illegal_dd | illegal_e3 | illegal_e4 | illegal_eb | illegal_ec | illegal_ed | illegal_f4 | illegal_fc
  | illegal_fd => exact .inr (by decide)
  | _ => cases h

theorem descriptor?_of_illegal {i : Instr} (h : i.row.layer = .illegal) (ext : Bool) : i.descriptor? ext = none := by
  rw [Instr.descriptor?, h]

/-- An illegal byte is a row of its own without operands (R100, R101). -/
theorem formOf_illegal {op : Byte} (h : op ∈ Machine.illegalBytes) : ∃ i, formOf op = .one i ∧ i.row.layer = .illegal := by
  fin_cases h <;> exact ⟨_, rfl, rfl⟩

theorem decodeAt_hasRow {op : Byte} (h : op ≠ 0xCB) (b1 b2 : Byte) :
    ∃ operands, (formOf op).HasRow (decodeAt op b1 b2) operands := by
  rw [decodeAt]
  cases hform : formOf op with
  | one i => exact ⟨_, .one i⟩
  | imm8 f => exact ⟨_, .imm8 f b1⟩
  | imm16 f => exact ⟨_, .imm16 f (word b2 b1)⟩
  | escape => exact absurd (eq_of_formOf_escape hform) h

/-- Every byte but the illegal ones begins an instruction with a descriptor (R93, R101). -/
theorem decodeAt_descriptor? {op : Byte} (h : op ∉ Machine.illegalBytes) (b1 b2 : Byte) :
    ∃ d, (decodeAt op b1 b2).descriptor? true = some d := by
  by_cases hcb : op = 0xCB
  · subst hcb
    obtain ⟨-, hd, -⟩ := descriptor?_of_isCbRow (cbInstr_isCbRow b1)
    exact hd
  · obtain ⟨operands, hrow⟩ := decodeAt_hasRow hcb b1 b2
    obtain ⟨hkey, -⟩ := row_of_hasRow hrow
    rw [← Option.ne_none_iff_exists']
    intro hnone
    obtain he | hm := key_of_descriptor?_eq_none hnone
    · exact hcb (BitVec.eq_of_toNat_eq (hkey.symm.trans he))
    · obtain ⟨b, hb, hbop⟩ := List.mem_map.mp hm
      rw [BitVec.eq_of_toNat_eq (hbop.trans hkey)] at hb
      exact h hb

end Sys2Proof

namespace Sys2Proof.Machine

/-! ### The CPU step -/

/-- Without a descriptor the CPU step raises the decode fault and changes nothing else (R320). -/
theorem process_of_no_descriptor {s : State} (hrun : s.runState = .running) (h : fetchedDescriptor s = none) :
    process s = .next { s with runState := .faulted .decode } := by
  rw [process, hrun, h]; rfl

/-- With a descriptor the CPU step is the instruction after the pc advance (R96). -/
theorem process_of_descriptor {s : State} {d : Descriptor} (hrun : s.runState = .running) (h : fetchedDescriptor s = some d) :
    process s = exec (fetch s) (s.advancePc d.length) := by
  rw [process, hrun, h]

/-- After a CPU step that found a descriptor the driver runs the ticks of the fetched row and keeps its trace line (R351, R356). -/
theorem afterCpuStep_of_descriptor {s : State} {d : Descriptor} (h : fetchedDescriptor s = some d) (t : State) :
    afterCpuStep s t = pollEvents (ppuTicks (ppuTicksOf s.cfg (fetch s).row (fetchedTaken s)) { t with
      lastTrace := some ⟨s.pc, d.name, cyclesOf s.cfg (fetch s).row (fetchedTaken s), (fetch s).row.operands⟩ }) := by
  rw [afterCpuStep, ticksAfter, traceOf, h]

/-- Settles O5: every second byte has a row of the 0xCB table, and the fields name the instructions by their encodings. -/
theorem cbNamespaceIsWholeAndGated : Obligations.CbNamespaceIsWholeAndGated := by
  refine ⟨fun op o => decode_of_isCbRow (rot_isCbRow op o),
    fun y o => ⟨decode_of_isCbRow (bit_isCbRow y o), decode_of_isCbRow (res_isCbRow y o), decode_of_isCbRow (set_isCbRow y o)⟩,
    fun op2 rest => ⟨cbInstr op2, rfl, descriptor?_of_isCbRow (cbInstr_isCbRow op2)⟩, fun s hrun hext hread => ?_⟩
  apply process_of_no_descriptor hrun
  obtain ⟨-, -, hnone⟩ := descriptor?_of_isCbRow (cbInstr_isCbRow (s.read (s.pc + 1)))
  rw [fetchedDescriptor, fetch, hread, hext]
  exact hnone

/-- Settles O6: an illegal byte is a row without a descriptor, whatever bytes follow, and no other byte begins such a row. -/
theorem illegalBytesNeverHaveADescriptor : Obligations.IllegalBytesNeverHaveADescriptor := by
  refine ⟨fun op hop => ?_, fun op hop b1 b2 => ?_⟩
  · obtain ⟨i, hform, hlayer⟩ := formOf_illegal hop
    refine ⟨fun rest => ⟨i, by simp only [decode, hform], descriptor?_of_illegal hlayer⟩, fun s hrun hread => ?_⟩
    apply process_of_no_descriptor hrun
    rw [fetchedDescriptor, fetch, hread, decodeAt, hform]
    exact descriptor?_of_illegal hlayer _
  · obtain ⟨d, hd⟩ := decodeAt_descriptor? hop b1 b2
    obtain ⟨rest, hdecode⟩ := decode_three_bytes op b1 b2
    exact ⟨_, rest, d, hdecode, hd⟩

/-- Settles O8: the fetched instruction is the decoded one, and its descriptor gives the pc advance, the ticks and the trace. -/
theorem stepRunsTheDecodedInstruction : Obligations.StepRunsTheDecodedInstruction := by
  intro s i rest d hrun hopen hdecode hd
  obtain rfl : fetch s = i := fetch_of_decode hdecode
  obtain ⟨t, hexec, -⟩ := exec_frame (fetch s) (s.advancePc d.length)
  have hprocess : process s = .next t := (process_of_descriptor hrun hd).trans hexec
  rw [step_of_process ((runEnded_iff s).mpr ⟨hrun, hopen⟩) hprocess, afterCpuStep_of_descriptor hd]
  rw [State.advancePc] at hexec
  rw [hexec]
  rfl

end Sys2Proof.Machine

/-! PROOF. The loads (40_loads.md): the shared operation of each family and what it does (R121 to R142), and the registers no rule
names (R120). -/

namespace Sys2Proof.Machine

/-! ### The instruction of each operand combination -/

theorem exec_ldRegReg (dst src : Reg8) (s : State) : exec (.ldRegReg dst src) s = .next (copyReg dst src s) := by
  cases dst <;> cases src <;> rfl

theorem exec_ldRegImm (dst : Reg8) (d8 : Byte) (s : State) : exec (.ldRegImm dst d8) s = .next (s.setReg dst d8) := by
  cases dst <;> rfl

theorem exec_ldPairImm (p : Pair) (d16 : Word) (s : State) : exec (.ldPairImm p d16) s = .next (s.setPair p d16) := by
  cases p <;> rfl

theorem exec_ldRegAtHL (dst : Reg8) (s : State) : exec (.ldRegAtHL dst) s = .next (loadFrom dst (s.pair .hl) s) := by
  cases dst <;> rfl

theorem exec_ldAtHLReg (src : Reg8) (s : State) : exec (.ldAtHLReg src) s = .next (storeTo (s.pair .hl) src s) := by
  cases src <;> rfl

/-! ### Addresses and stores -/

/-- The I/O-page address is a sum: the offset cannot carry into the page (R95). -/
theorem ioAddr_eq_add (offset : Byte) : ioAddr offset = 0xFF00 + offset.setWidth 16 := by
  have hoffset := offset.isLt
  apply BitVec.eq_of_toNat_eq
  rw [ioAddr_toNat, BitVec.toNat_add, BitVec.toNat_setWidth]
  simp only [BitVec.reduceToNat]
  omega

theorem write_storesByte (s : State) (addr : Word) (v : Byte) : StoresByte (.next (s.write addr v)) s addr v :=
  ⟨_, rfl, rfl, fun a => write_read s addr a v⟩

theorem writeWord_storesWord (s : State) (addr v : Word) : StoresWord (.next (s.writeWord addr v)) s addr v := by
  obtain ⟨-, hread, -⟩ := wordAccessIsLittleEndianAndWraps s addr v
  rw [ofNat_succ_mod] at hread
  exact ⟨_, rfl, rfl, hread⟩

/-- Settles O26: each store is one byte write, at the address of its form. -/
theorem storesWriteOneByte : Obligations.StoresWriteOneByte := by
  refine ⟨fun src s => ?_, fun d8 s => write_storesByte s _ d8, fun s => write_storesByte s _ s.a,
    fun s => write_storesByte s _ s.a, fun a16 s => write_storesByte s a16 s.a, fun a8 s => ?_, fun s => ?_⟩
  · rw [exec_ldAtHLReg]
    exact write_storesByte s (s.pair .hl) (s.reg src)
  · rw [← ioAddr_eq_add]
    exact write_storesByte s (ioAddr a8) s.a
  · rw [← ioAddr_eq_add]
    exact write_storesByte s (ioAddr s.c) s.a

/-! ### HL moved after the access -/

theorem storeAMoveHL_hl_toNat (delta : Word) (s : State) :
    ((storeAMoveHL delta s).pair .hl).toNat = ((s.pair .hl).toNat + delta.toNat) % 65536 := by
  rw [storeAMoveHL, setPair_pair_same, BitVec.toNat_add]

/-- The store is at the old HL (R133, R134). -/
theorem storeAMoveHL_read (delta : Word) (s : State) (a : Word) :
    (storeAMoveHL delta s).read a = if a = s.pair .hl then s.a else s.read a := by
  rw [storeAMoveHL, setPair_read]
  exact write_read s (s.pair .hl) a s.a

theorem loadAMoveHL_hl_toNat (delta : Word) (s : State) :
    ((loadAMoveHL delta s).pair .hl).toNat = ((s.pair .hl).toNat + delta.toNat) % 65536 := by
  rw [loadAMoveHL, setPair_pair_same, BitVec.toNat_add]

/-- Settles O27: HL moves by 1, or by -1, which is 65535; the store is at the old HL, and no other field is in either access. -/
theorem hlPostModification : Obligations.HLPostModification :=
  ⟨fun s => ⟨_, rfl, rfl, storeAMoveHL_hl_toNat 1 s, storeAMoveHL_read 1 s⟩,
    fun s => ⟨_, rfl, rfl, storeAMoveHL_hl_toNat (-1) s, storeAMoveHL_read (-1) s⟩,
    fun s => ⟨_, rfl, rfl, loadAMoveHL_hl_toNat 1 s⟩,
    fun s => ⟨_, rfl, rfl, loadAMoveHL_hl_toNat (-1) s⟩⟩

/-! ### SP -/

/-- Settles O28: the store is one word write of SP, the copy a write of the pair SP. -/
theorem stackPointerLoads : Obligations.StackPointerLoads :=
  ⟨fun a16 s => writeWord_storesWord s a16 s.sp, fun _ => rfl⟩

/-! ### The registers of the frame -/

/-- Settles O48: the registers and SP of the instruction's frame. -/
theorem registerFrame : Obligations.RegisterFrame := by
  intro i s t h
  have hframe := frame_of_exec h
  exact ⟨hframe.reg, hframe.sp⟩

/-! ### Loads of registers and pairs -/

/-- Settles O24: the register or pair write of each family. -/
theorem copiesAndImmediateLoads : Obligations.CopiesAndImmediateLoads :=
  ⟨exec_ldRegReg, exec_ldRegImm, exec_ldPairImm⟩

/-- Settles O25: each load is the register write of the byte at the address of its form. -/
theorem loadsReadOneByte : Obligations.LoadsReadOneByte := by
  refine ⟨exec_ldRegAtHL, fun _ => rfl, fun _ => rfl, fun _ _ => rfl, fun a8 s => ?_, fun s => ?_⟩
  · rw [← ioAddr_eq_add]
    rfl
  · rw [← ioAddr_eq_add]
    rfl

end Sys2Proof.Machine

/-! PROOF. Increment and decrement (41_incdec.md): the shared operation of each family, and what the old byte says of the flags
(R160). -/

namespace Sys2Proof.Machine

/-! ### The instruction of each operand -/

theorem exec_incOpd (o : Opd8) (s : State) : exec (.incOpd o) s = .next (incOperand o s) := by
  obtain ⟨⟨⟩⟩ | ⟨⟩ := o <;> rfl

theorem exec_decOpd (o : Opd8) (s : State) : exec (.decOpd o) s = .next (decOperand o s) := by
  obtain ⟨⟨⟩⟩ | ⟨⟩ := o <;> rfl

theorem exec_incPair (p : Pair) (s : State) : exec (.incPair p) s = .next (incPair p s) := by
  cases p <;> rfl

theorem exec_decPair (p : Pair) (s : State) : exec (.decPair p) s = .next (decPair p s) := by
  cases p <;> rfl

/-! ### The flags from the old byte -/

/-- The increment reaches 0 only by the wrap from 0xFF, so Z too is a property of the old byte (R160). -/
theorem incByte_sm83 (v : Byte) (f : Flags) :
    incByte .sm83 v f = ⟨v + 1, decide (v = 0xFF), false, decide (v.toNat % 16 = 15), f.c⟩ := by
  have hzero : v + 1 = 0 ↔ v = 0xFF := eq_neg_iff_add_eq_zero.symm
  rw [incByte, incFlags, beq_eq_decide, decide_eq_decide.mpr hzero]

/-- The decrement reaches 0 only from 1 (R160). -/
theorem decByte_sm83 (v : Byte) (f : Flags) :
    decByte .sm83 v f = ⟨v - 1, decide (v = 0x01), true, decide (v.toNat % 16 = 0), f.c⟩ := by
  have hzero : v - 1 = 0 ↔ v = 1 := sub_eq_zero
  rw [decByte, decFlags, beq_eq_decide, decide_eq_decide.mpr hzero]

/-- Settles O29: each form is its shared operation, whose flags are those of the mode, read off the old byte under sm83. -/
theorem incrementsAndDecrements : Obligations.IncrementsAndDecrements := by
  refine ⟨fun o s => ?_, fun o s => ?_, exec_incPair, exec_decPair⟩
  · rw [exec_incOpd, incOperand]
    cases s.cfg.incdecFlags with
    | unchanged => rfl
    | sm83 => rw [incByte_sm83]
  · rw [exec_decOpd, decOperand]
    cases s.cfg.incdecFlags with
    | unchanged => rfl
    | sm83 => rw [decByte_sm83]

end Sys2Proof.Machine

/-! PROOF. Control transfer (42_control.md): the relative jump (R181), calls as a push and a jump (R183, R186), returns (R184,
R185), and a return undoing a call. -/

namespace Sys2Proof.Machine

/-! ### The relative jump -/

theorem relTarget_eq (s : State) (e8 : Byte) : relTarget s e8 = (s.pc.toNat : Int) + e8.toInt := by
  rw [relTarget, sext16_eq_toInt]

/-- The two cases of the jump exclude each other, so a target that is an address is reached (R181). -/
theorem jumpRelative_of_toNat_eq {e8 : Byte} {s : State} {t : Word} (h : (t.toNat : Int) = relTarget s e8) :
    jumpRelative e8 s = s.setPc t := by
  obtain ⟨-, -, hjump⟩ | ⟨hrange, -⟩ := jumpRelative_cases e8 s
  · rw [hjump, ← h, BitVec.ofInt_natCast, BitVec.ofNat_toNat, BitVec.setWidth_eq]
  · have ht := t.isLt
    omega

theorem jumpRelative_of_outOfRange {e8 : Byte} {s : State} (h : relTarget s e8 < 0 ∨ relTarget s e8 > 0xFFFF) :
    jumpRelative e8 s = raiseFault .jumpRange s :=
  if_pos h

/-- Settles O30: the target is the advanced pc plus the displacement, and the jump is decided by its range. -/
theorem relativeJumpOrRangeFault : Obligations.RelativeJumpOrRangeFault := by
  intro e8 s
  rw [← relTarget_eq]
  exact ⟨fun t ht => congrArg Host.Outcome.next (jumpRelative_of_toNat_eq ht),
    fun hrange => congrArg Host.Outcome.next (jumpRelative_of_outOfRange hrange)⟩

/-! ### Calls -/

theorem exec_rst (y : Fin 8) (s : State) : exec (.rst y) s = .next (callTo (BitVec.ofNat 16 (8 * y.val)) s) := by
  fin_cases y <;> rfl

/-- A push, then a jump to `target`: the high byte lies at `SP - 2 + 1`, which is `SP - 1` (R200). -/
theorem pushWord_setPc_pushesWord (v target : Word) (s : State) :
    PushesWord (.next ((pushWord v s).setPc target)) s v target := by
  refine ⟨_, rfl, rfl, fun a => ?_⟩
  have hhigh : s.sp - 2 + 1 = s.sp - 1 := by bv_omega
  have hne : s.sp - 2 ≠ s.sp - 1 := hhigh ▸ ne_add_one (s.sp - 2)
  rw [show ((pushWord v s).setPc target).read a = (pushWord v s).read a from rfl, pushWord_read, hhigh]
  obtain rfl | hlow := eq_or_ne a (s.sp - 2)
  · rw [if_neg hne, if_pos rfl, if_pos rfl]
  · rw [if_neg hlow, if_neg hlow]

/-- Settles O31: CALL and RST are the same call to their target. -/
theorem jumpsAndCalls : Obligations.JumpsAndCalls := by
  refine ⟨fun _ _ => rfl, fun a16 s => pushWord_setPc_pushesWord s.pc a16 s, fun y s => ?_⟩
  rw [exec_rst]
  exact pushWord_setPc_pushesWord s.pc _ s

/-! ### Returns -/

/-- Settles O32: RET is the pop into pc, RETI the same with IME set. -/
theorem returnsPopThePc : Obligations.ReturnsPopThePc :=
  ⟨fun _ => rfl, fun _ => rfl⟩

/-- `Push` then `Pop` leaves only the pushed bytes behind (R201). -/
theorem popState_pushWord (v : Word) (s : State) : popState (pushWord v s) = { s with mem := (pushWord v s).mem } :=
  calc popState (pushWord v s)
    _ = { s with mem := (pushWord v s).mem, sp := s.sp - 2 + 2 } := rfl
    _ = { s with mem := (pushWord v s).mem } := by rw [BitVec.sub_add_cancel]

theorem returnFrom_callTo (target : Word) (s : State) :
    returnFrom (callTo target s) = { s with mem := (callTo target s).mem } :=
  calc returnFrom (callTo target s)
    _ = (popState (pushWord s.pc s)).setPc (popValue (pushWord s.pc s)) := rfl
    _ = { s with mem := (pushWord s.pc s).mem } := by
      rw [popState_pushWord, pushWord_popValue]
      rfl

/-- Settles O33: the return pops the address the call pushed and moves SP back over it. -/
theorem callThenReturnRestores : Obligations.CallThenReturnRestores := by
  rintro a16 s t ⟨⟩
  exact ⟨_, rfl, returnFrom_callTo a16 s⟩

end Sys2Proof.Machine

/-! PROOF. Stack (43_stack.md): PUSH (R200, R202), POP (R201, R203), and a POP undoing a PUSH of the same pair. -/

namespace Sys2Proof.Machine

theorem exec_push (p : Pair2) (s : State) : exec (.push p) s = .next (pushPair p s) := by cases p <;> rfl

theorem exec_pop (p : Pair2) (s : State) : exec (.pop p) s = .next (popPair p s) := by cases p <;> rfl

/-- Settles O34: PUSH is a push that leaves pc alone, and POP writes the pair with the word at the old SP. -/
theorem pushAndPop : Obligations.PushAndPop := by
  refine ⟨fun p s => ?_, exec_pop⟩
  rw [exec_push]
  exact pushWord_setPc_pushesWord (s.pair2 p) s.pc s

/-- Writing a pair with its own value changes nothing; for AF, the low nibble POP drops was zero (R33, R34). -/
theorem setPair2_pair2_self (s : State) (p : Pair2) : s.setPair2 p (s.pair2 p) = s := by
  cases p with
  | bc | de | hl => simp only [State.pair2, State.pair, State.setPair2, State.setPair, hi_word, lo_word]
  | af => simp only [State.pair2, State.setPair2, hi_word, lo_word, flagsOfByte_flagsToByte]

/-- The pairs are registers, not memory (R32). -/
theorem pair2_mem (s : State) (m : Mem) (p : Pair2) : { s with mem := m }.pair2 p = s.pair2 p := by cases p <;> rfl

theorem popPair_pushPair (p : Pair2) (s : State) : popPair p (pushPair p s) = { s with mem := (pushPair p s).mem } :=
  calc popPair p (pushPair p s)
    _ = { s with mem := (pushPair p s).mem }.setPair2 p (s.pair2 p) := by
      rw [popPair, pushPair, popState_pushWord, pushWord_popValue]
    _ = { s with mem := (pushPair p s).mem } := by
      rw [← pair2_mem s (pushPair p s).mem p, setPair2_pair2_self]

/-- Settles O35: POP writes back the value PUSH stored, which is the pair's own. -/
theorem pushThenPopRestores : Obligations.PushThenPopRestores := by
  intro p s t hpush
  obtain rfl : pushPair p s = t := Host.Outcome.next.inj ((exec_push p s).symm.trans hpush)
  rw [exec_pop, popPair_pushPair]
  exact ⟨_, rfl, rfl⟩

end Sys2Proof.Machine

/-! PROOF. System instructions (44_system.md): NOP (R210), EI and DI (R211, R212), HALT and STOP (R213, R214). -/

namespace Sys2Proof.Machine

/-- Settles O36: NOP is the identity, EI and DI are `setIme`, HALT and STOP are `haltWith`, each a write of one field. -/
theorem systemInstructions : Obligations.SystemInstructions :=
  ⟨fun _ => rfl, fun _ => rfl, fun _ => rfl, fun _ => rfl, fun _ _ => rfl⟩

end Sys2Proof.Machine

/-! PROOF. ALU (45_alu.md): the shared operation of the family (R230), and its result and flags in exact arithmetic (R231 to R235)
and bit by bit (R236 to R239). -/

namespace Sys2Proof.Machine

/-! ### The instruction of each operation and source -/

theorem exec_alu (op : AluOp) (src : AluSrc) (s : State) : exec (.alu op src) s = .next (aluOperate op src s) := by
  obtain ⟨⟨⟨⟩⟩ | ⟨⟩⟩ | ⟨⟩ := src <;> cases op <;> rfl

/-- Every ALU operation but CP writes A and the flags, and nothing else (R230). -/
theorem exec_alu_of_ne_cp (op : AluOp) (src : AluSrc) (s : State) (h : op ≠ .cp) :
    exec (.alu op src) s = .next { s with
      a := (aluCompute op s.a (s.aluSrc src) s.flags.c).res
      flags := (aluCompute op s.a (s.aluSrc src) s.flags.c).flags } := by
  rw [exec_alu]
  cases op with
  | cp => exact absurd rfl h
  | add | adc | sub | sbc | and | xor | or => rfl

/-! ### Results and flags -/

/-- The Zero flag of a result byte, in numbers. -/
theorem beq_zero_eq_decide_toNat (v : Byte) : (v == 0) = decide (v.toNat = 0) := by
  rw [beq_eq_decide]
  exact decide_eq_decide.mpr BitVec.toNat_eq

theorem addBytes_res_toNat (a b : Byte) (cin : Bool) :
    (addBytes a b cin).res.toNat = (a.toNat + b.toNat + cin.toNat) % 256 :=
  BitVec.toNat_ofNat _ 8

theorem addBytes_flags (a b : Byte) (cin : Bool) :
    (addBytes a b cin).flags =
      { z := decide ((addBytes a b cin).res.toNat = 0), n := false,
        h := decide (a.toNat % 16 + b.toNat % 16 + cin.toNat > 15), c := decide (a.toNat + b.toNat + cin.toNat > 255) } := by
  rw [← beq_zero_eq_decide_toNat]
  rfl

/-- The two wrapping subtractions are one exact difference, reduced once (R233, R234). -/
theorem subBytes_res_toNat (a b : Byte) (cin : Bool) :
    ((subBytes a b cin).res.toNat : Int) = ((a.toNat : Int) - b.toNat - cin.toNat) % 256 := by
  have hcin := cin.toNat_le
  rw [subBytes, BitVec.toNat_sub, BitVec.toNat_sub, BitVec.toNat_ofNat]
  omega

/-- The borrow is a negative exact difference (R233, R234). -/
theorem subBytes_flags (a b : Byte) (cin : Bool) :
    (subBytes a b cin).flags =
      { z := decide ((subBytes a b cin).res.toNat = 0), n := true, h := decide (a.toNat % 16 < b.toNat % 16 + cin.toNat),
        c := decide ((a.toNat : Int) - b.toNat - cin.toNat < 0) } := by
  have hborrow : (a.toNat : Int) - b.toNat - cin.toNat < 0 ↔ a.toNat < b.toNat + cin.toNat := by omega
  rw [← beq_zero_eq_decide_toNat, decide_eq_decide.mpr hborrow]
  rfl

/-- The state a bitwise result `v` leads to (R236 to R239). -/
theorem bitwise_state (s : State) (v : Byte) :
    { s with a := (bitwise v).res, flags := (bitwise v).flags } =
      { s with a := v, flags := ⟨decide (v = 0), false, false, false⟩ } := by
  rw [bitwise, beq_eq_decide]

/-! ### The obligations -/

/-- Settles O37: ADD is ADC with a carry of 0, so one exact sum serves both. -/
theorem additionSetsAccumulatorAndFlags : Obligations.AdditionSetsAccumulatorAndFlags := fun src s =>
  ⟨⟨_, exec_alu_of_ne_cp .add src s nofun, rfl, addBytes_res_toNat _ _ false, addBytes_flags _ _ false⟩,
    ⟨_, exec_alu_of_ne_cp .adc src s nofun, rfl, addBytes_res_toNat _ _ _, addBytes_flags _ _ _⟩⟩

/-- Settles O38: SUB is SBC with a carry of 0, and CP sets the flags of SUB. -/
theorem subtractionSetsAccumulatorAndFlags : Obligations.SubtractionSetsAccumulatorAndFlags := by
  intro src s
  have hres := subBytes_res_toNat s.a (s.aluSrc src) false
  have hflags := subBytes_flags s.a (s.aluSrc src) false
  rw [Bool.toNat_false, Nat.cast_zero, sub_zero] at hres hflags
  exact ⟨⟨_, exec_alu_of_ne_cp .sub src s nofun, rfl, hres, hflags, exec_alu .cp src s⟩,
    ⟨_, exec_alu_of_ne_cp .sbc src s nofun, rfl, subBytes_res_toNat _ _ _, subBytes_flags _ _ _⟩⟩

/-- Settles O39: the result is the bit vector operation, read off bit by bit. -/
theorem bitwiseOperations : Obligations.BitwiseOperations := fun src s =>
  ⟨⟨_, exec_alu_of_ne_cp .and src s nofun, bitwise_state s _, fun _ _ => BitVec.getLsbD_and⟩,
    ⟨_, exec_alu_of_ne_cp .xor src s nofun, bitwise_state s _, fun _ _ => BitVec.getLsbD_xor⟩,
    ⟨_, exec_alu_of_ne_cp .or src s nofun, bitwise_state s _, fun _ _ => BitVec.getLsbD_or⟩,
    ⟨_, rfl, bitwise_state s (~~~s.a), fun _ hk =>
      BitVec.getLsbD_not.trans (by rw [decide_eq_true hk, Bool.true_and])⟩⟩

end Sys2Proof.Machine

/-! PROOF. The unprefixed extension (46_ext_sm83.md): the rotates of A (R261 to R264), decimal adjust (R265), the Carry instructions
(R266, R267), the word additions (R268 to R270), and the conditional transfers (R271 to R276). -/

namespace Sys2Proof.Machine

/-! ### Rotates -/

theorem bitOf_zero (v : Byte) : bitOf v 0 = decide (v.toNat % 2 = 1) := Nat.testBit_zero v.toNat

theorem bitOf_seven (v : Byte) : bitOf v 7 = decide (v.toNat ≥ 128) :=
  (BitVec.msb_eq_getLsbD_last v).symm.trans (BitVec.msb_eq_decide v)

theorem bitOf_zero_toNat (v : Byte) : (bitOf v 0).toNat = v.toNat % 2 :=
  (Nat.toNat_testBit v.toNat 0).trans (by rw [pow_zero, Nat.div_one])

theorem bitOf_seven_toNat (v : Byte) : (bitOf v 7).toNat = v.toNat / 128 := by
  have hv := v.isLt
  have hbit : (bitOf v 7).toNat = v.toNat / 128 % 2 := Nat.toNat_testBit v.toNat 7
  omega

/-- A left shift leaves bit 0 free for the bit shifted in. -/
theorem shiftLeft_or_bit_toNat (v : Byte) (b : Bool) :
    (v <<< 1 ||| BitVec.ofNat 8 b.toNat).toNat = v.toNat * 2 % 256 + b.toNat := by
  have hb := b.toNat_lt
  have hshift : (v <<< 1).toNat = (v.toNat % 128) <<< 1 := by
    rw [BitVec.toNat_shiftLeft, Nat.shiftLeft_eq, Nat.shiftLeft_eq]
    omega
  have hbit : (BitVec.ofNat 8 b.toNat).toNat = b.toNat := Nat.mod_eq_of_lt (by omega)
  rw [BitVec.toNat_or, hshift, hbit, ← Nat.shiftLeft_add_eq_or_of_lt hb,
    Nat.shiftLeft_eq]
  omega

/-- A right shift leaves bit 7 free for the bit shifted in. -/
theorem shiftRight_or_bit_toNat (v : Byte) (b : Bool) :
    (v >>> 1 ||| BitVec.ofNat 8 b.toNat <<< 7).toNat = v.toNat / 2 + 128 * b.toNat := by
  have hb := b.toNat_lt
  have hv : v.toNat >>> 1 < 2 ^ 7 := by
    have := v.isLt
    rw [Nat.shiftRight_eq_div_pow]
    omega
  have hshift : (BitVec.ofNat 8 b.toNat <<< 7).toNat = b.toNat <<< 7 := by
    rw [BitVec.toNat_shiftLeft, BitVec.toNat_ofNat, Nat.shiftLeft_eq, Nat.shiftLeft_eq]
    omega
  rw [BitVec.toNat_or, hshift, BitVec.toNat_ushiftRight, Nat.or_comm, ← Nat.shiftLeft_add_eq_or_of_lt hv, Nat.shiftLeft_eq,
    Nat.shiftRight_eq_div_pow]
  omega

/-- Settles O40: each is a shift with one bit put in, the bit that leaves or the Carry. -/
theorem rotatesOfA : Obligations.RotatesOfA := by
  intro s
  rw [← bitOf_zero s.a, ← bitOf_seven s.a, ← bitOf_zero_toNat s.a, ← bitOf_seven_toNat s.a]
  exact ⟨⟨_, rfl, shiftLeft_or_bit_toNat s.a _, rfl⟩, ⟨_, rfl, shiftRight_or_bit_toNat s.a _, rfl⟩,
    ⟨_, rfl, shiftLeft_or_bit_toNat s.a _, rfl⟩, ⟨_, rfl, shiftRight_or_bit_toNat s.a _, rfl⟩⟩

/-! ### Decimal adjust -/

theorem toNat_ofInt_cast (w : Nat) (i : Int) : ((BitVec.ofInt w i).toNat : Int) = i % (2 ^ w : Nat) := by
  rw [BitVec.toNat_ofInt, Int.toNat_of_nonneg (Int.emod_nonneg i (by positivity))]

/-- The correction by 0x60 leaves the low digit, so both corrections after an addition are decided by the old A (R265). -/
theorem daaAdjust_of_add (a : Nat) {f : Flags} (hn : f.n = false) :
    daaAdjust a f =
      (((a + (if f.c = true ∨ a > 0x99 then 0x60 else 0) + (if f.h = true ∨ a % 16 > 9 then 0x06 else 0) : Nat) : Int),
        f.c || decide (a > 0x99)) := by
  have hlow : (a + 0x60) % 16 = a % 16 := by omega
  by_cases hhigh : f.c = true ∨ a > 0x99 <;> by_cases hdigit : f.h = true ∨ a % 16 > 9 <;>
    simp [daaAdjust, hn, hhigh, hdigit, hlow]

theorem daaAdjust_of_sub (a : Nat) {f : Flags} (hn : f.n = true) :
    daaAdjust a f = ((a : Int) - (if f.c = true then 0x60 else 0) - (if f.h = true then 0x06 else 0), f.c) := by
  cases hc : f.c <;> cases hh : f.h <;> simp [daaAdjust, hn, hc, hh]

/-- The adjusted value is reduced to a byte once (R265). -/
theorem decimalAdjust_a_toNat (s : State) :
    ((decimalAdjust s).a.toNat : Int) = (daaAdjust s.a.toNat s.flags).1 % 256 :=
  toNat_ofInt_cast 8 _

/-- Settles O41: A and C are those of `daaAdjust`, case by case of N. -/
theorem decimalAdjust_spec : Obligations.DecimalAdjust := by
  intro s
  refine ⟨_, rfl, rfl, rfl, rfl, beq_zero_eq_decide_toNat _, fun hn => ?_, fun hn => ?_⟩
  · have hadjust := daaAdjust_of_add s.a.toNat hn
    refine ⟨congrArg Prod.snd hadjust, ?_⟩
    have hres := decimalAdjust_a_toNat s
    rw [hadjust] at hres
    exact Int.ofNat.inj hres
  · have hadjust := daaAdjust_of_sub s.a.toNat hn
    refine ⟨congrArg Prod.snd hadjust, ?_⟩
    rw [decimalAdjust_a_toNat, hadjust]

/-! ### Decimal arithmetic -/

/-- The last two decimal digits of a number, as BCD. -/
def bcd (n : Nat) : Byte := BitVec.ofNat 8 (16 * (n % 100 / 10) + n % 10)

theorem bcd_of_lt {n : Nat} (h : n < 100) : bcd n = BitVec.ofNat 8 (16 * (n / 10) + n % 10) := by
  rw [bcd, Nat.mod_eq_of_lt h]

theorem bcd_toNat (n : Nat) : (bcd n).toNat = 16 * (n % 100 / 10) + n % 10 :=
  Nat.mod_eq_of_lt (by omega)

theorem bcd_toNat_mod (n : Nat) : (bcd n).toNat % 16 = n % 10 := by
  rw [bcd_toNat]
  omega

theorem bcd_toNat_of_lt {n : Nat} (h : n < 100) : (bcd n).toNat = 16 * (n / 10) + n % 10 := by
  rw [bcd_toNat, Nat.mod_eq_of_lt h]

/-- With the digit sums `p` and `q` of two BCD numbers, DAA corrects by 0x60 exactly when the decimal sum has three digits. -/
theorem high_correction_iff {p q : Nat} (hq : q ≤ 18) (hn : 10 * p + q < 200) :
    (16 * p + q > 255 ∨ (16 * p + q) % 256 > 0x99) ↔ 10 * p + q ≥ 100 := by
  omega

/-- DAA corrects by 0x06 exactly when the low digits carry. -/
theorem low_correction_iff {p q : Nat} (hq : q ≤ 18) :
    (q > 15 ∨ (16 * p + q) % 256 % 16 > 9) ↔ q ≥ 10 := by
  omega

/-- Why DAA works: a correction by 6 in each digit that carries turns a carry of 16 into one of 10. The carries are `q / 10` and
`(10 * p + q) / 100`, so that a borrow is a carry of -1 and one identity serves ADD and SUB. -/
theorem bcd_correction (p q : Int) :
    (16 * p + q + 0x60 * ((10 * p + q) / 100) + 0x06 * (q / 10)) % 256 =
      16 * ((10 * p + q) % 100 / 10) + (10 * p + q) % 10 := by
  have hlow : (10 * p + q) % 10 = q - 10 * (q / 10) := by omega
  have hhigh : (10 * p + q) % 100 / 10 = p + q / 10 - 10 * ((10 * p + q) / 100) := by omega
  rw [hlow, hhigh]
  omega

theorem corrected_sum {p q : Nat} (hq : q ≤ 18) (hn : 10 * p + q < 200) :
    ((16 * p + q) % 256 + (if 10 * p + q ≥ 100 then 0x60 else 0) + (if q ≥ 10 then 0x06 else 0)) % 256 =
      16 * ((10 * p + q) % 100 / 10) + (10 * p + q) % 10 := by
  have hhigh : (if 10 * p + q ≥ 100 then 0x60 else 0) = 0x60 * ((10 * p + q) / 100) := by split <;> omega
  have hlow : (if q ≥ 10 then 0x06 else 0) = 0x06 * (q / 10) := by split <;> omega
  rw [hhigh, hlow, add_assoc, Nat.mod_add_mod, ← add_assoc]
  exact_mod_cast bcd_correction p q

theorem corrected_difference {p q : Int} (hp : -9 ≤ p ∧ p ≤ 9) (hq : -9 ≤ q ∧ q ≤ 9) :
    ((16 * p + q) % 256 - (if 16 * p + q < 0 then 0x60 else 0) - (if q < 0 then 0x06 else 0)) % 256 =
      16 * ((10 * p + q) % 100 / 10) + (10 * p + q) % 10 := by
  have hhigh : (if 16 * p + q < 0 then 0x60 else 0) = -(0x60 * ((10 * p + q) / 100)) := by split <;> omega
  have hlow : (if q < 0 then 0x06 else 0) = -(0x06 * (q / 10)) := by split <;> omega
  rw [hhigh, hlow, sub_neg_eq_add, sub_neg_eq_add, add_assoc, Int.emod_add_emod, ← add_assoc, bcd_correction]

theorem add_daa_bcd {x y : Nat} (hx : x < 100) (hy : y < 100) {s t : State} (ha : s.a = bcd x)
    (ht : exec (.add_a_d8 (bcd y)) s = .next t) :
    ∃ u, exec .daa t = .next u ∧ u.flags.c = decide (x + y ≥ 100) ∧ u.a = bcd (x + y) := by
  obtain ⟨⟨t', ht', -, hres, hflags⟩, -⟩ := additionSetsAccumulatorAndFlags (.imm (bcd y)) s
  obtain rfl : t' = t := Host.Outcome.next.inj (ht'.symm.trans ht)
  obtain ⟨u, hu, -, -, -, -, hadd, -⟩ := decimalAdjust_spec t'
  obtain ⟨hc, hsum⟩ := hadd (by rw [hflags])
  have hlow : x % 10 + y % 10 ≤ 18 := by omega
  have hbytes : (bcd x).toNat + (bcd y).toNat = 16 * (x / 10 + y / 10) + (x % 10 + y % 10) := by
    rw [bcd_toNat_of_lt hx, bcd_toNat_of_lt hy]
    omega
  have hsumDigits : 10 * (x / 10 + y / 10) + (x % 10 + y % 10) = x + y := by omega
  have hrange : 10 * (x / 10 + y / 10) + (x % 10 + y % 10) < 200 := by omega
  simp only [State.aluSrc, ha, bcd_toNat_mod, hbytes] at hres hflags
  simp only [hflags, hres, decide_eq_true_eq, ← Bool.decide_or, high_correction_iff hlow hrange, low_correction_iff hlow]
    at hc hsum
  rw [corrected_sum hlow hrange, hsumDigits] at hsum
  rw [hsumDigits] at hc
  exact ⟨u, hu, hc, BitVec.eq_of_toNat_eq (hsum.trans (bcd_toNat (x + y)).symm)⟩

theorem sub_daa_bcd {x y : Nat} (hx : x < 100) (hy : y < 100) {s t : State} (ha : s.a = bcd x)
    (ht : exec (.sub_a_d8 (bcd y)) s = .next t) :
    ∃ u, exec .daa t = .next u ∧ u.flags.c = decide (x < y) ∧ u.a = bcd (x + 100 - y) := by
  obtain ⟨⟨t', ht', -, hres, hflags, -⟩, -⟩ := subtractionSetsAccumulatorAndFlags (.imm (bcd y)) s
  obtain rfl : t' = t := Host.Outcome.next.inj (ht'.symm.trans ht)
  obtain ⟨u, hu, -, -, -, -, -, hsub⟩ := decimalAdjust_spec t'
  obtain ⟨hc, hdiff⟩ := hsub (by rw [hflags])
  have hbytes : ((bcd x).toNat : Int) - (bcd y).toNat = 16 * (x / 10 - y / 10 : Int) + (x % 10 - y % 10 : Int) := by
    rw [bcd_toNat_of_lt hx, bcd_toNat_of_lt hy]
    omega
  have hborrow : x % 10 < y % 10 ↔ (x % 10 - y % 10 : Int) < 0 := by omega
  simp only [State.aluSrc, ha, bcd_toNat_mod, hbytes, hborrow] at hres hflags
  simp only [hflags, hres, decide_eq_true_eq] at hc hdiff
  rw [corrected_difference (by omega) (by omega)] at hdiff
  refine ⟨u, hu, hc.trans (decide_eq_decide.mpr (by omega)), BitVec.eq_of_toNat_eq ?_⟩
  rw [bcd_toNat]
  omega

/-- Settles O42: the operands and the result are `bcd` numbers. -/
theorem bcdArithmeticIsDecimal : Obligations.BcdArithmeticIsDecimal := by
  intro x y s t ha
  rw [← bcd_of_lt x.isLt] at ha
  rw [← bcd_of_lt y.isLt]
  exact ⟨add_daa_bcd x.isLt y.isLt ha, sub_daa_bcd x.isLt y.isLt ha⟩

/-- Settles O43: both are `setFlags` with Z kept. -/
theorem carryFlagInstructions : Obligations.CarryFlagInstructions :=
  ⟨fun _ => rfl, fun _ => rfl⟩

/-! ### Word additions -/

theorem exec_addHLPair (p : Pair) (s : State) : exec (.addHLPair p) s = .next (addToHL p s) := by cases p <;> rfl

/-- The displacement is signed and the sum wraps (R269). -/
theorem addSpDisp_res_toNat (sp : Word) (e8 : Byte) :
    ((addSpDisp sp e8).res.toNat : Int) = ((sp.toNat : Int) + e8.toInt) % 65536 := by
  rw [addSpDisp, sext16_eq_toInt, toNat_ofInt_cast]
  rfl

/-- Settles O44: one word addition serves every pair, one SP-relative sum serves both of its instructions. -/
theorem wordAdditions : Obligations.WordAdditions := by
  refine ⟨fun p s => ⟨_, exec_addHLPair p s, rfl, ?_, rfl⟩, fun e8 s =>
    ⟨_, _, addSpDisp_res_toNat s.sp e8, rfl, rfl, rfl⟩⟩
  rw [addToHL, setFlags_pair, setPair_pair_same]
  exact BitVec.toNat_add _ _

/-! ### Conditional transfers -/

theorem exec_jrCond (cc : Cond) (e8 : Byte) (s : State) :
    exec (.jrCond cc e8) s = .next (whenCond cc (jumpRelative e8) s) := by
  cases cc <;> rfl

theorem exec_jpCond (cc : Cond) (a16 : Word) (s : State) :
    exec (.jpCond cc a16) s = .next (whenCond cc (·.setPc a16) s) := by
  cases cc <;> rfl

theorem exec_callCond (cc : Cond) (a16 : Word) (s : State) :
    exec (.callCond cc a16) s = .next (whenCond cc (callTo a16) s) := by
  cases cc <;> rfl

theorem exec_retCond (cc : Cond) (s : State) : exec (.retCond cc) s = .next (whenCond cc returnFrom s) := by
  cases cc <;> rfl

theorem whenCond_of_not_holds {cc : Cond} {s : State} (h : condHolds cc s.flags = false) (effect : State → State) :
    whenCond cc effect s = s := by
  rw [whenCond, h]
  rfl

theorem whenCond_of_holds {cc : Cond} {s : State} (h : condHolds cc s.flags = true) (effect : State → State) :
    whenCond cc effect s = effect s :=
  if_pos h

/-- Settles O45: a taken transfer is its unconditional form, a transfer not taken the identity. -/
theorem conditionalTransfersAndJumpHL : Obligations.ConditionalTransfersAndJumpHL := by
  refine ⟨fun _ => ⟨rfl, rfl, rfl, rfl⟩, fun cc s hcc e8 a16 => ?_, fun cc s hcc e8 a16 => ?_, fun _ => rfl⟩ <;>
    simp only [exec_jrCond, exec_jpCond, exec_callCond, exec_retCond]
  · simp only [whenCond_of_not_holds hcc, and_self]
  · simp only [whenCond_of_holds hcc]
    obtain ⟨hjump, hfault⟩ := relativeJumpOrRangeFault e8 s
    exact ⟨hjump, hfault, rfl, pushWord_setPc_pushesWord s.pc a16 s, rfl⟩

end Sys2Proof.Machine

/-! PROOF. The 0xCB extension (47_ext_cb.md): the rotates and shifts in exact arithmetic (R301 to R308), and the bit instructions
bit by bit (R309 to R311). -/

namespace Sys2Proof.Machine

/-! ### The instruction of each operation and operand -/

theorem exec_rot (op : RotOp) (o : Opd8) (s : State) : exec (.rot op o) s = .next (rotOperand op o s) := by
  cases op <;> obtain ⟨⟨⟩⟩ | ⟨⟩ := o <;> rfl

theorem exec_bit (y : Fin 8) (o : Opd8) (s : State) : exec (.bit y o) s = .next (testBit y o s) := by
  fin_cases y <;> obtain ⟨⟨⟩⟩ | ⟨⟩ := o <;> rfl

theorem exec_res (y : Fin 8) (o : Opd8) (s : State) : exec (.res y o) s = .next (resetBit y o s) := by
  fin_cases y <;> obtain ⟨⟨⟩⟩ | ⟨⟩ := o <;> rfl

theorem exec_set (y : Fin 8) (o : Opd8) (s : State) : exec (.set y o) s = .next (setOneBit y o s) := by
  fin_cases y <;> obtain ⟨⟨⟩⟩ | ⟨⟩ := o <;> rfl

/-! ### The results -/

/-- The sign bit alone, as a bit put in at the top (R306). -/
theorem and_sign_eq_shiftLeft (v : Byte) : v &&& (0x80 : Byte) = BitVec.ofNat 8 (bitOf v 7).toNat <<< 7 := by
  apply BitVec.eq_of_toNat_eq
  calc (v &&& (0x80 : Byte)).toNat
    _ = (bitOf v 7).toNat * 2 ^ 7 := (BitVec.toNat_and v 0x80).trans (Nat.and_two_pow v.toNat 7)
    _ = (BitVec.ofNat 8 (bitOf v 7).toNat <<< 7).toNat := by cases bitOf v 7 <;> rfl

/-- The exchange of the nibbles (R307). -/
theorem swap_toNat (v : Byte) : ((v &&& 0x0F) <<< 4 ||| v >>> 4).toNat = 16 * (v.toNat % 16) + v.toNat / 16 := by
  have hv := v.isLt
  have hlow : ((v &&& 0x0F) <<< 4).toNat = (v.toNat % 16) <<< 4 := by
    rw [BitVec.toNat_shiftLeft, BitVec.toNat_and, show (0x0F : Byte).toNat = 2 ^ 4 - 1 from rfl,
      Nat.and_two_pow_sub_one_eq_mod, Nat.shiftLeft_eq]
    omega
  have hhigh : (v >>> 4).toNat = v.toNat / 16 := by rw [BitVec.toNat_ushiftRight, Nat.shiftRight_eq_div_pow]
  rw [BitVec.toNat_or, hlow, hhigh, ← Nat.shiftLeft_add_eq_or_of_lt (by omega), Nat.shiftLeft_eq]
  omega

/-- Settles O46: each is a shift with one bit put in, or the exchange of the nibbles. -/
theorem rotatesAndShifts : Obligations.RotatesAndShifts := by
  intro op o s
  refine ⟨(rotCompute op (s.opd o) s.flags.c).1, (rotCompute op (s.opd o) s.flags.c).2, ?_, ?_⟩
  · rw [exec_rot, ← beq_zero_eq_decide_toNat]
    rfl
  · generalize s.opd o = v
    rw [← bitOf_zero v, ← bitOf_seven v, ← bitOf_zero_toNat v, ← bitOf_seven_toNat v]
    cases op with
    | rlc => exact ⟨shiftLeft_or_bit_toNat v _, rfl⟩
    | rrc => exact ⟨shiftRight_or_bit_toNat v _, rfl⟩
    | rl => exact ⟨shiftLeft_or_bit_toNat v _, rfl⟩
    | rr => exact ⟨shiftRight_or_bit_toNat v _, rfl⟩
    | sla => exact ⟨by rw [rotCompute, BitVec.toNat_shiftLeft, Nat.shiftLeft_eq, pow_one], rfl⟩
    | sra => exact ⟨by rw [rotCompute, and_sign_eq_shiftLeft, shiftRight_or_bit_toNat], rfl⟩
    | swap => exact ⟨swap_toNat v, rfl⟩
    | srl => exact ⟨by rw [rotCompute, BitVec.toNat_ushiftRight, Nat.shiftRight_eq_div_pow, pow_one], rfl⟩

/-- The mask of RES and SET has one bit (R310, R311). -/
theorem mask_getLsbD (y : Fin 8) (k : Nat) : ((1 : Byte) <<< y.val).getLsbD k = decide (k = y.val) :=
  (BitVec.getLsbD_twoPow y.val k).trans (by rw [decide_eq_true y.isLt, Bool.true_and]; exact decide_eq_decide.mpr eq_comm)

theorem clearBit_getLsbD (y : Fin 8) (v : Byte) {k : Nat} (hk : k < 8) :
    (clearBit y v).getLsbD k = if k = y.val then false else v.getLsbD k := by
  rw [clearBit, BitVec.getLsbD_and, BitVec.getLsbD_not, mask_getLsbD, decide_eq_true hk, Bool.true_and]
  by_cases h : k = y.val <;> simp [h]

theorem setBit_getLsbD (y : Fin 8) (v : Byte) (k : Nat) :
    (setBit y v).getLsbD k = if k = y.val then true else v.getLsbD k := by
  rw [setBit, BitVec.getLsbD_or, mask_getLsbD]
  by_cases h : k = y.val <;> simp [h]

/-- Settles O47: BIT writes the flags only, RES and SET the operand only. -/
theorem bitTestResetAndSet : Obligations.BitTestResetAndSet := fun y o s =>
  ⟨exec_bit y o s, ⟨_, exec_res y o s, fun _ hk => clearBit_getLsbD y _ hk⟩,
    ⟨_, exec_set y o s, fun _ _ => setBit_getLsbD y _ _⟩⟩

end Sys2Proof.Machine

/-! PROOF. The exceptions (60_exceptions.md): what a step keeps (R344, R346, R347), the keys without a descriptor (R320), and the
terminal run states (R323, R353). -/

namespace Sys2Proof.Machine

/-! ### The invariant -/

theorem setOpd_wf {s : State} (o : Opd8) (v : Byte) (h : Memory.wf s.mem = true) : Memory.wf (s.setOpd o v).mem = true := by
  obtain ⟨r, -, e⟩ | ⟨-, e⟩ := setOpd_cases s o v <;> rw [e]
  · rwa [setReg_mem]
  · exact write_wf _ v h

theorem whenCond_wf {s : State} {op : State → State} (cc : Cond) (h : Memory.wf s.mem = true)
    (hop : Memory.wf (op s).mem = true) : Memory.wf (whenCond cc op s).mem = true := by
  obtain ⟨-, e⟩ | ⟨-, e⟩ := whenCond_cases cc op s <;> rw [e]
  · exact hop
  · exact h

theorem jumpRelative_wf {s : State} (e8 : Byte) (h : Memory.wf s.mem = true) : Memory.wf (jumpRelative e8 s).mem = true := by
  obtain ⟨-, -, e⟩ | ⟨-, e⟩ := jumpRelative_cases e8 s <;> rw [e]
  · exact h
  · exact h

/-- Every instruction stores bytes by the bus, or none, so it keeps the canonical form (R60, R63). -/
theorem exec_wf (i : Instr) {s : State} (h : Memory.wf s.mem = true) : ∃ t, exec i s = .next t ∧ Memory.wf t.mem = true := by
  cases i with
  | ld_atHL_d8 _ | ldh_a8_a _ | ld_a16_a _ | ld_atBC_a | ld_atDE_a | ld_atHL_b | ld_atHL_c | ld_atHL_d | ld_atHL_e | ld_atHL_h
  | ld_atHL_l | ld_atHL_a | ld_atC_a | ld_atHLinc_a | ld_atHLdec_a => exact ⟨_, rfl, write_wf (s := s) _ _ h⟩
  | ld_a16_sp _ => exact ⟨_, rfl, writeWord_wf _ _ h⟩
  | inc_atHL | dec_atHL | rlc_atHL | rrc_atHL | rl_atHL | rr_atHL | sla_atHL | sra_atHL | swap_atHL | srl_atHL | res_0_atHL
  | res_1_atHL | res_2_atHL | res_3_atHL | res_4_atHL | res_5_atHL | res_6_atHL | res_7_atHL | set_0_atHL | set_1_atHL
  | set_2_atHL | set_3_atHL | set_4_atHL | set_5_atHL | set_6_atHL | set_7_atHL =>
    exact ⟨_, rfl, setOpd_wf (s := s) .atHL _ h⟩
  | push_bc | push_de | push_hl | push_af | call_a16 _ | rst_00h | rst_08h | rst_10h | rst_18h | rst_20h | rst_28h | rst_30h
  | rst_38h => exact ⟨_, rfl, pushWord_wf (s := s) _ h⟩
  | call_nz_a16 _ | call_z_a16 _ | call_nc_a16 _ | call_c_a16 _ =>
    exact ⟨_, rfl, whenCond_wf _ h (pushWord_wf (s := s) _ h)⟩
  | jr_e8 _ => exact ⟨_, rfl, jumpRelative_wf _ h⟩
  | jr_nz_e8 _ | jr_z_e8 _ | jr_nc_e8 _ | jr_c_e8 _ => exact ⟨_, rfl, whenCond_wf _ h (jumpRelative_wf _ h)⟩
  | jp_nz_a16 _ | jp_z_a16 _ | jp_nc_a16 _ | jp_c_a16 _ | ret_nz | ret_z | ret_nc | ret_c =>
    exact ⟨_, rfl, whenCond_wf _ h h⟩
  | _ => exact ⟨_, rfl, h⟩

theorem process_wf {s : State} (h : Memory.wf s.mem = true) : ∃ t, process s = .next t ∧ Memory.wf t.mem = true := by
  obtain ⟨-, e⟩ | ⟨-, -, e⟩ | ⟨d, -, -, e⟩ := process_cases s
  · exact ⟨s, e, h⟩
  · exact ⟨_, e, h⟩
  · obtain ⟨t, ht, hwf⟩ := exec_wf (fetch s) (s := s.advancePc d.length) h
    exact ⟨t, e.trans ht, hwf⟩

/-- The CPU step keeps the canonical memory, and with it the invariant: it does not touch the PPU and the display (R45). -/
theorem process_inv {s t : State} (h : s.Inv) (hp : process s = .next t) : t.Inv := by
  obtain ⟨hmem, hppu, hoff⟩ := h
  obtain ⟨u, hu, hwf⟩ := process_wf hmem
  obtain ⟨v, hv, hppuKept, hdisplayKept, -⟩ := process_next s
  obtain rfl : t = u := Host.Outcome.next.inj (hp.symm.trans hu)
  obtain rfl : t = v := Host.Outcome.next.inj (hp.symm.trans hv)
  exact ⟨hwf, hppuKept ▸ hppu, by rwa [hppuKept, hdisplayKept]⟩

/-- Settles O14: a step is nothing, or a CPU step and what the driver does after it, and each keeps the invariant. -/
theorem stepKeepsTheInvariant : Obligations.StepKeepsTheInvariant := by
  intro s t h hstep
  obtain ⟨-, rfl⟩ | ⟨-, u, hp, rfl⟩ := step_cases hstep
  · exact h
  · exact afterCpuStep_inv (process_inv h hp)

/-! ### The keys without a descriptor -/

/-- A row with a descriptor under `SM83_EXT` loses it exactly as an extension row without `SM83_EXT` (R93). -/
theorem descriptor?_eq_none_iff {i : Instr} {d : Descriptor} (h : i.descriptor? true = some d) (ext : Bool) :
    i.descriptor? ext = none ↔ i.row.layer = .ext ∧ ext = false := by
  have hdescr := descr_of_descriptor? h
  cases hlayer : i.row.layer with
  | core => simp [Instr.descriptor?, hlayer, hdescr]
  | ext => cases ext <;> simp [Instr.descriptor?, hlayer, hdescr]
  | illegal | escape => simp [Instr.descriptor?, hlayer] at h

/-- Settles O9: an illegal byte has a row without a descriptor, and every other byte begins an instruction with one under
`SM83_EXT`. -/
theorem missingDescriptorIsADecodeFault : Obligations.MissingDescriptorIsADecodeFault := by
  intro s i rest hrun hdecode
  obtain rfl : fetch s = i := fetch_of_decode hdecode
  refine ⟨?_, process_of_no_descriptor hrun⟩
  by_cases hop : s.read s.pc ∈ illegalBytes
  · obtain ⟨i, hform, hlayer⟩ := formOf_illegal hop
    have hfetch : fetch s = i := by rw [fetch, decodeAt, hform]
    exact iff_of_true (hfetch ▸ descriptor?_of_illegal hlayer _) (.inl hop)
  · obtain ⟨d, hd⟩ := decodeAt_descriptor? hop (s.read (s.pc + 1)) (s.read (s.pc + 2))
    rw [or_iff_right hop]
    exact descriptor?_eq_none_iff hd _

/-- Settles O10: each of the twelve rows has `raiseFault` as its meaning. -/
theorem illegalRowsRaiseDecodeFault : Obligations.IllegalRowsRaiseDecodeFault := by
  intro i hi s
  fin_cases hi <;> rfl

/-! ### The terminal run states -/

/-- A state that steps to itself is left by no number of steps. -/
theorem run_of_step_self {M : Host.Core} {s : M.State} (h : M.step s = .next s) (n : Nat) : M.run n s = .next s := by
  induction n with
  | zero => rfl
  | succ n ih => rw [Host.Core.run, h]; exact ih

/-- Settles O11: a terminal run state ends the run. -/
theorem terminalRunStatesAreInert : Obligations.TerminalRunStatesAreInert := by
  intro s n hrun
  refine ⟨?_, run_of_step_self (M := core) (step_of_runEnded ?_) n⟩
  · obtain ⟨-, h⟩ | ⟨hrunning, -⟩ | ⟨d, hrunning, -⟩ := process_cases s
    · exact h
    · exact absurd hrunning hrun
    · exact absurd hrunning hrun
  · rw [← Bool.not_eq_false, runEnded_iff]
    exact fun h => hrun h.1

end Sys2Proof.Machine

/-! PROOF. The PPU timing engine (60_exceptions.md): the frame hand-off, start and stop (R345, R346, R350), the mode lengths and the
frame period by the position of a tick in the frame (R340, R341), and the one frame of a period (R343). -/

namespace Sys2Proof.Machine

/-! ### The frame hand-off, start and stop -/

/-- Settles O56: `produceFrame_eq`, with the display open after the host's answer or closed. -/
theorem closedDisplayStopsThePpu : Obligations.ClosedDisplayStopsThePpu := by
  intro s
  rw [produceFrame_eq]
  refine ⟨fun hopen hhead => ?_, fun hclosed => ?_⟩
  · rw [hopen, hostAnswer_of_head hhead]
    rfl
  · have hdisplay : (s.displayOpen && s.hostAnswer) = false := by
      obtain h | h := hclosed
      · rw [h, Bool.false_and]
      · rw [hostAnswer_of_head_closed h, Bool.and_false]
    rw [hdisplay]
    rfl

theorem Ppu.tick_of_off {p : Ppu} (h : p.mode = .off) : p.tick = p := by
  rw [Ppu.tick, h]

/-- Every frame point is a tick of a mode other than Off (R343). -/
theorem framePointHit_of_off (fp : FramePoint) {p : Ppu} (h : p.mode = .off) : framePointHit fp p = false := by
  cases fp <;> exact decide_eq_false fun e => by rw [e] at h; cases h

theorem ppuTick_of_off {s : State} (h : s.ppu.mode = .off) : ppuTick s = s := by
  obtain ⟨hhit, -⟩ | ⟨-, e⟩ := ppuTick_cases s
  · exact absurd hhit (by rw [framePointHit_of_off _ h]; exact Bool.false_ne_true)
  · rw [e, Ppu.tick_of_off h]

theorem ppuTicks_of_off (n : Nat) {s : State} (h : s.ppu.mode = .off) : ppuTicks n s = s := by
  induction n with
  | zero => rfl
  | succ n ih => rw [ppuTicks, ppuTick_of_off h, ih]

/-- In Off the driver has no PPU to move after a CPU step (R346, R352). -/
theorem afterCpuStep_ppu_of_off (s : State) {t : State} (h : t.ppu.mode = .off) : (afterCpuStep s t).ppu = t.ppu := by
  rw [afterCpuStep, ppuTicks_of_off _ (s := { t with lastTrace := traceOf s }) h]
  rfl

/-- Settles O55: `start()` is a frame at the first tick, and in Off neither a tick nor a CPU step moves the PPU. -/
theorem startAndStop : Obligations.StartAndStop := by
  refine ⟨fun s hopen hhead => ?_, fun _ => rfl, fun s n => ppuTicks_of_off n, fun s t hoff hstep => ?_⟩
  · rw [ppuStart_eq, hopen, hostAnswer_of_head hhead]
    rfl
  · obtain ⟨-, rfl⟩ | ⟨-, u, hp, rfl⟩ := step_cases hstep
    · rfl
    · obtain ⟨v, hv, hppu, -⟩ := process_next s
      obtain rfl : u = v := Host.Outcome.next.inj (hp.symm.trans hv)
      rw [afterCpuStep_ppu_of_off s (hppu ▸ hoff), hppu]

/-! ### The length of a mode -/

/-- The number of ticks of a mode on a line (R340, R341). -/
def PpuMode.length : PpuMode → Nat
  | .off => 0
  | .oamSearch => 20
  | .draw => 63
  | .hblank | .vblank => 114

/-- Before the last tick of its mode the PPU only counts (R340). -/
theorem Ppu.tick_of_lt_length {mode : PpuMode} (ly : Nat) {dot : Nat} (h : dot + 1 < mode.length) :
    Ppu.tick ⟨mode, ly, dot⟩ = ⟨mode, ly, dot + 1⟩ := by
  cases mode with
  | off => exact absurd h (Nat.not_lt_zero _)
  | oamSearch | draw | hblank | vblank => exact if_neg fun e => by simp only [PpuMode.length] at h e; omega

theorem Ppu.tick_iterate_of_lt_length {mode : PpuMode} (ly : Nat) {n : Nat} (h : n < mode.length) :
    Ppu.tick^[n] ⟨mode, ly, 0⟩ = ⟨mode, ly, n⟩ := by
  induction n with
  | zero => rfl
  | succ n ih => rw [Function.iterate_succ_apply', ih (by omega), Ppu.tick_of_lt_length ly h]

/-- A mode ends with the tick made at its last dot. -/
theorem Ppu.tick_iterate_length {mode : PpuMode} (ly : Nat) {n : Nat} (h : n + 1 = mode.length) :
    Ppu.tick^[n + 1] ⟨mode, ly, 0⟩ = Ppu.tick ⟨mode, ly, n⟩ := by
  rw [Function.iterate_succ_apply', Ppu.tick_iterate_of_lt_length ly (by omega)]

theorem Ppu.tick_hblank_end {ly : Nat} (h : ly ≠ 143) : Ppu.tick ⟨.hblank, ly, 113⟩ = ⟨.draw, ly + 1, 0⟩ := by
  simp only [Ppu.tick, if_neg h, if_true]

theorem Ppu.tick_vblank_end {ly : Nat} (h : ly ≠ 153) : Ppu.tick ⟨.vblank, ly, 113⟩ = ⟨.vblank, ly + 1, 0⟩ := by
  simp only [Ppu.tick, if_neg h, if_true]

/-! ### The position in the frame -/

/-- A PPU state of R344 that is not Off. -/
structure Ppu.Live (p : Ppu) : Prop where
  inv : p.Inv
  ne_off : p.mode ≠ .off

theorem Ppu.Live.tick {p : Ppu} (h : p.Live) : p.tick.Live :=
  ⟨Ppu.tick_inv h.inv, fun hoff => h.ne_off ((Ppu.tick_off p).mp hoff)⟩

theorem Ppu.Live.tick_iterate {p : Ppu} (h : p.Live) (n : Nat) : (Ppu.tick^[n] p).Live := by
  induction n with
  | zero => exact h
  | succ n ih => rw [Function.iterate_succ_apply']; exact ih.tick

/-- The four modes with their lines and dots (R344). -/
theorem Ppu.Live.cases {p : Ppu} (h : p.Live) :
    (∃ dot, dot ≤ 19 ∧ p = ⟨.oamSearch, 0, dot⟩) ∨
    (∃ ly dot, ly ≤ 143 ∧ dot ≤ 62 ∧ p = ⟨.draw, ly, dot⟩) ∨
    (∃ ly dot, ly ≤ 143 ∧ dot ≤ 113 ∧ p = ⟨.hblank, ly, dot⟩) ∨
    (∃ ly dot, 144 ≤ ly ∧ ly ≤ 153 ∧ dot ≤ 113 ∧ p = ⟨.vblank, ly, dot⟩) := by
  obtain ⟨mode, ly, dot⟩ := p
  obtain ⟨⟨hly, hdot, hoam, hdraw, hhblank, hvblank⟩, hoff⟩ := h
  cases mode with
  | off => exact absurd rfl hoff
  | oamSearch =>
    obtain ⟨rfl, h⟩ := hoam rfl
    exact .inl ⟨dot, h, rfl⟩
  | draw => exact .inr (.inl ⟨ly, dot, (hdraw rfl).1, (hdraw rfl).2, rfl⟩)
  | hblank => exact .inr (.inr (.inl ⟨ly, dot, hhblank rfl, hdot, rfl⟩))
  | vblank => exact .inr (.inr (.inr ⟨ly, dot, hvblank rfl, hly, hdot, rfl⟩))

/-- How many ticks of the frame lie before this state: 20 of OAMSearch, then 177 on each of the lines 0 to 143, then 114 on each
line of VBlank (R341). -/
def Ppu.position (p : Ppu) : Nat :=
  match p.mode with
  | .off => 0
  | .oamSearch => p.dot
  | .draw => 20 + 177 * p.ly + p.dot
  | .hblank => 83 + 177 * p.ly + p.dot
  | .vblank => 25508 + 114 * (p.ly - 144) + p.dot

theorem Ppu.position_lt {p : Ppu} (h : p.Live) : p.position < 26648 := by
  obtain ⟨dot, _, rfl⟩ | ⟨ly, dot, _, _, rfl⟩ | ⟨ly, dot, _, _, rfl⟩ | ⟨ly, dot, _, _, _, rfl⟩ := h.cases <;>
    simp only [Ppu.position] <;> omega

/-- The position tells the states of R344 apart. -/
theorem Ppu.position_inj {p q : Ppu} (hp : p.Live) (hq : q.Live) (h : p.position = q.position) : p = q := by
  obtain ⟨dot, _, rfl⟩ | ⟨ly, dot, _, _, rfl⟩ | ⟨ly, dot, _, _, rfl⟩ | ⟨ly, dot, _, _, _, rfl⟩ := hp.cases <;>
    obtain ⟨dot', _, rfl⟩ | ⟨ly', dot', _, _, rfl⟩ | ⟨ly', dot', _, _, rfl⟩ | ⟨ly', dot', _, _, _, rfl⟩ := hq.cases <;>
    simp only [Ppu.position, Ppu.mk.injEq, reduceCtorEq, true_and, false_and] at h ⊢ <;> omega

/-- A tick moves to the next position of the frame, and from the last one to the first (R340, R341). -/
theorem Ppu.tick_position {p : Ppu} (h : p.Live) : p.tick.position = (p.position + 1) % 26648 := by
  obtain ⟨dot, _, rfl⟩ | ⟨ly, dot, _, _, rfl⟩ | ⟨ly, dot, _, _, rfl⟩ | ⟨ly, dot, _, _, _, rfl⟩ := h.cases
  · simp only [Ppu.tick]
    split <;> simp only [Ppu.position] <;> omega
  · simp only [Ppu.tick]
    split <;> simp only [Ppu.position] <;> omega
  · by_cases hly : ly = 143
    · simp only [Ppu.tick, if_pos hly]
      split <;> simp only [Ppu.position] <;> omega
    · simp only [Ppu.tick, if_neg hly]
      split <;> simp only [Ppu.position] <;> omega
  · by_cases hly : ly = 153
    · simp only [Ppu.tick, if_pos hly]
      split <;> simp only [Ppu.position] <;> omega
    · simp only [Ppu.tick, if_neg hly]
      split <;> simp only [Ppu.position] <;> omega

theorem Ppu.tick_iterate_position {p : Ppu} (h : p.Live) (n : Nat) :
    (Ppu.tick^[n] p).position = (p.position + n) % 26648 := by
  induction n with
  | zero => exact (Nat.mod_eq_of_lt (Ppu.position_lt h)).symm
  | succ n ih => rw [Function.iterate_succ_apply', Ppu.tick_position (h.tick_iterate n), ih, Nat.mod_add_mod, Nat.add_assoc]

/-- Ticks lead to the state at the position they count to. -/
theorem Ppu.tick_iterate_eq {p q : Ppu} (hp : p.Live) (hq : q.Live) {n : Nat} (h : (p.position + n) % 26648 = q.position) :
    Ppu.tick^[n] p = q :=
  Ppu.position_inj (hp.tick_iterate n) hq ((Ppu.tick_iterate_position hp n).trans h)

/-- A frame is 26648 ticks (R341). -/
theorem Ppu.tick_iterate_period {p : Ppu} (h : p.Live) : Ppu.tick^[26648] p = p :=
  Ppu.tick_iterate_eq h h (by rw [Nat.add_mod_right, Nat.mod_eq_of_lt (Ppu.position_lt h)])

/-- Settles O53: each mode by its length, the sums by the position in the frame. -/
theorem ppuModeDurations : Obligations.PpuModeDurations := by
  have hstart : Ppu.Live ⟨.oamSearch, 0, 0⟩ := ⟨by decide, nofun⟩
  have hvblank : Ppu.Live ⟨.vblank, 144, 0⟩ := ⟨by decide, nofun⟩
  refine ⟨Ppu.tick_iterate_length 0 rfl, fun ly => Ppu.tick_iterate_length ly rfl, fun ly hly => ?_,
    Ppu.tick_iterate_length 143 rfl, fun ly hly => ?_, Ppu.tick_iterate_length 153 rfl,
    Ppu.tick_iterate_eq hstart hvblank rfl, Ppu.tick_iterate_period hstart⟩
  · exact (Ppu.tick_iterate_length ly rfl).trans (Ppu.tick_hblank_end hly)
  · exact (Ppu.tick_iterate_length ly rfl).trans (Ppu.tick_vblank_end hly)

/-! ### The frame of a period -/

/-- The last state before the tick that produces the frame (R343). -/
def framePointState : FramePoint → Ppu
  | .line0HblankEnd => ⟨.hblank, 0, 113⟩
  | .vblankExit => ⟨.vblank, 153, 113⟩

theorem framePointState_live (fp : FramePoint) : (framePointState fp).Live := by
  cases fp <;> exact ⟨by decide, nofun⟩

/-- A tick matches `FRAME_POINT` at one position of the frame (R343). -/
theorem framePointHit_iff (fp : FramePoint) {p : Ppu} (h : p.Live) :
    framePointHit fp p = true ↔ p.position = (framePointState fp).position := by
  have hhit : framePointHit fp p = true ↔ p = framePointState fp := by cases fp <;> exact decide_eq_true_iff
  exact hhit.trans ⟨congrArg Ppu.position, Ppu.position_inj h (framePointState_live fp)⟩

/-- The display is open and the host closes it at no frame or poll (R354, log 5). -/
structure State.StaysOpen (s : State) : Prop where
  displayOpen : s.displayOpen = true
  hostAnswers : ∀ b ∈ s.hostAnswers, b = true

theorem produceFrame_of_staysOpen {s : State} (h : s.StaysOpen) :
    produceFrame s = { s with frames := s.frames + 1, hostAnswers := s.hostAnswers.tail } := by
  obtain ⟨hframe, -⟩ := closedDisplayStopsThePpu s
  exact hframe h.displayOpen fun hhead => Bool.false_ne_true (h.hostAnswers false (List.mem_of_head? hhead))

/-- While the display stays open a tick moves the PPU and counts the frame of a matching tick (R340, R343). -/
theorem ppuTick_of_staysOpen {s : State} (h : s.StaysOpen) :
    (ppuTick s).StaysOpen ∧ (ppuTick s).ppu = s.ppu.tick ∧ (ppuTick s).cfg = s.cfg ∧
      (ppuTick s).frames = s.frames + if framePointHit s.cfg.framePoint s.ppu then 1 else 0 := by
  obtain ⟨hopen, hanswers⟩ := h
  obtain ⟨hhit, e⟩ | ⟨hhit, e⟩ := ppuTick_cases s
  · rw [e, produceFrame_of_staysOpen (s := { s with ppu := s.ppu.tick }) ⟨hopen, hanswers⟩, hhit]
    exact ⟨⟨hopen, fun b hb => hanswers b (List.mem_of_mem_tail hb)⟩, rfl, rfl, rfl⟩
  · rw [e, hhit]
    exact ⟨⟨hopen, hanswers⟩, rfl, rfl, rfl⟩

theorem ppuTicks_of_staysOpen (n : Nat) {s : State} (h : s.StaysOpen) :
    (ppuTicks n s).StaysOpen ∧ (ppuTicks n s).ppu = Ppu.tick^[n] s.ppu := by
  induction n generalizing s with
  | zero => exact ⟨h, rfl⟩
  | succ n ih =>
    obtain ⟨hopen, hppu, -⟩ := ppuTick_of_staysOpen h
    rw [ppuTicks, Function.iterate_succ_apply, ← hppu]
    exact ih hopen

/-- The frames so far are the passages of the frame point, one in each 26648 positions counted from just after it (R343). -/
theorem ppuTicks_frames (n : Nat) {s : State} (h : s.StaysOpen) (hlive : s.ppu.Live) {rest : Nat}
    (hrest : (framePointState s.cfg.framePoint).position + 1 + rest = 26648) :
    (ppuTicks n s).frames + (s.ppu.position + rest) / 26648 = s.frames + (s.ppu.position + n + rest) / 26648 := by
  induction n generalizing s with
  | zero => rfl
  | succ n ih =>
    obtain ⟨hopen, hppu, hcfg, hframes⟩ := ppuTick_of_staysOpen h
    have htick := ih hopen (hppu ▸ hlive.tick) (hcfg ▸ hrest)
    have hlt := Ppu.position_lt hlive
    rw [hppu, Ppu.tick_position hlive, hframes] at htick
    simp only [framePointHit_iff _ hlive] at htick
    rw [ppuTicks]
    split at htick <;> omega

/-- Settles O54: after a period the PPU is at the position it started from, having passed the frame point once. -/
theorem oneFramePerPeriod : Obligations.OneFramePerPeriod := by
  intro s hinv hoff hopen hanswers
  obtain ⟨rest, hrest⟩ := Nat.exists_eq_add_of_lt (Ppu.position_lt (framePointState_live s.cfg.framePoint))
  have hlive : s.ppu.Live := ⟨hinv, hoff⟩
  have hframes := ppuTicks_frames 26648 ⟨hopen, hanswers⟩ hlive (rest := rest) (by omega)
  obtain ⟨⟨hopen', -⟩, hppu⟩ := ppuTicks_of_staysOpen 26648 ⟨hopen, hanswers⟩
  refine ⟨hppu.trans (Ppu.tick_iterate_period hlive), ?_, hopen'⟩
  omega

end Sys2Proof.Machine
